-- ==== Sys2Proof/Word.lean ====
section
/-! DEFINITION. The word types of the block (00_scope.md R7, R8): bit 0 is the least significant bit. -/

namespace Sys2Proof

/-- A byte: one micro-operation of the ROM, or one byte of a frame (R8). -/
abbrev Byte := BitVec 8

/-- The frame `F = byte0 : byte1 : byte2 : byte3`, 32 bits (R8, `FRAME_BITS`). -/
abbrev FrameWord := BitVec 32

/-- A temperature count, 16 bits, two's complement (R7 `OUTW`, R23, R24). -/
abbrev Count := BitVec 16

/-- An address of the micro-program ROM, 5 bits (R7 `UPCW`, R25). -/
abbrev RomAddr := BitVec 5

end Sys2Proof
end

