-- ==== Sys2Proof/Syntax.lean ====
section
/-! DEFINITION. The instructions: one constructor per row of spec/opcode_table.json (30_encoding.md
R78, R79), over every operand bit the encoding admits. -/

namespace Sys2Proof

/-- The two formats (R70). Which one applies is fixed by where the word comes from. -/
inductive Format where
  /-- 32 bits, the word the FrameDecoder decodes. -/
  | frame32
  /-- 8 bits, the word the sequencer fetches. -/
  | uop8
deriving DecidableEq, Repr

/-- The five frame classes (R78). -/
inductive FrameClass where
  | rd
  | fltOc
  | fltScg
  | fltScv
  | fltUnk
deriving DecidableEq, Repr

/-- The seven micro-operation codes (R73). -/
inductive UopOp where
  | setr
  | wait
  | acq
  | dec
  | rpt
  | loop
  | halt
deriving DecidableEq, Repr

/-- An instruction. The operands of a frame class are the frame's fields (R71): `tc14 = F[31:18]`,
`b17 = F[17]` (ignored), `cj12 = F[15:4]`, `b3 = F[3]` (ignored) and the cause bits `scv = F[2]`,
`scg = F[1]`, `oc = F[0]` that the class does not fix. The operands of a micro-operation are R77's:
the one-based channel, the label and the target are numbers, bounded by `Instr.wf`. -/
inductive Instr where
  /-- `RD` (R110). -/
  | rd (tc14 : BitVec 14) (b17 : Bool) (cj12 : BitVec 12) (b3 scv scg oc : Bool)
  /-- `FLT.OC` (R111). -/
  | fltOc (tc14 : BitVec 14) (b17 : Bool) (cj12 : BitVec 12) (b3 scv scg : Bool)
  /-- `FLT.SCG` (R112). -/
  | fltScg (tc14 : BitVec 14) (b17 : Bool) (cj12 : BitVec 12) (b3 scv : Bool)
  /-- `FLT.SCV` (R113). -/
  | fltScv (tc14 : BitVec 14) (b17 : Bool) (cj12 : BitVec 12) (b3 : Bool)
  /-- `FLT.UNK` (R114). -/
  | fltUnk (tc14 : BitVec 14) (b17 : Bool) (cj12 : BitVec 12) (b3 : Bool)
  /-- `SETR ch, en` (R136). -/
  | setr (ch : Nat) (en : Bool)
  /-- `WAIT` (R152). -/
  | wait
  /-- `ACQ` (R153). -/
  | acq
  /-- `DEC` (R154). -/
  | dec
  /-- `RPT lbl` (R155). -/
  | rpt (lbl : Nat)
  /-- `LOOP t` (R156). -/
  | loop (t : Nat)
  /-- `HALT` (R157). -/
  | halt
deriving DecidableEq, Repr

/-- The format an instruction is written in (R70). -/
def Instr.format : Instr → Format
  | .rd _ _ _ _ _ _ _ => .frame32
  | .fltOc _ _ _ _ _ _ => .frame32
  | .fltScg _ _ _ _ _ => .frame32
  | .fltScv _ _ _ _ => .frame32
  | .fltUnk _ _ _ _ => .frame32
  | .setr _ _ => .uop8
  | .wait => .uop8
  | .acq => .uop8
  | .dec => .uop8
  | .rpt _ => .uop8
  | .loop _ => .uop8
  | .halt => .uop8

end Sys2Proof
end

