-- ==== Sys2Proof/WellFormed.lean ====
section
/-! DEFINITION. Which instructions exist: the bounds of the micro-operation operands
(30_encoding.md R77). A frame's fields are bit vectors of the field's own width, so every frame
instruction exists (R84). -/

namespace Sys2Proof

/-- A channel operand is 0 to 7, a label 0 to 7, a target 0 to 31 (R77). -/
def Instr.wf : Instr → Bool
  | .rd _ _ _ _ _ _ _ => true
  | .fltOc _ _ _ _ _ _ => true
  | .fltScg _ _ _ _ _ => true
  | .fltScv _ _ _ _ => true
  | .fltUnk _ _ _ _ => true
  | .setr ch _ => decide (ch < 8)
  | .wait => true
  | .acq => true
  | .dec => true
  | .rpt lbl => decide (lbl < 8)
  | .loop t => decide (t < 32)
  | .halt => true

end Sys2Proof
end

