-- ==== Sys2Proof/Decode.lean ====
section
/-! DEFINITION. The decoder, total on any bytes and rejecting by name, and after it the encoder, both
from the tables of 30_encoding.md (R71, R73, R78, R79). -/

namespace Sys2Proof

/-- Why bytes are no instruction. -/
inductive DecodeError where
  /-- A frame is exactly 4 bytes and a micro-operation exactly one (20_memory.md R63, R70). -/
  | wrongLength (fmt : Format) (n : Nat)
  /-- A ROM word that is none of the seven patterns (R86). -/
  | reservedUop (w : Byte)
deriving DecidableEq, Repr

/-! ### The fields of a frame (R71, R72) -/

/-- Big-endian assembly of a frame from its bytes in the order received (20_memory.md R54). -/
def frameOfBytes (b0 b1 b2 b3 : Byte) : FrameWord := b0 ++ b1 ++ b2 ++ b3

/-- The bytes of a frame in the order received (R54, R72). -/
def bytesOfFrame (F : FrameWord) : List Byte :=
  [F.extractLsb' 24 8, F.extractLsb' 16 8, F.extractLsb' 8 8, F.extractLsb' 0 8]

/-- `TC14 = F[31:18]`. -/
def fieldTc14 (F : FrameWord) : BitVec 14 := F.extractLsb' 18 14
/-- `CJ12 = F[15:4]`. -/
def fieldCj12 (F : FrameWord) : BitVec 12 := F.extractLsb' 4 12
/-- `F[17]`, in no expression of the decoder (R81). -/
def bit17 (F : FrameWord) : Bool := F.getLsbD 17
/-- `F[3]`, in no expression of the decoder (R81). -/
def bit3 (F : FrameWord) : Bool := F.getLsbD 3
/-- `FAULT = F[16]` (R76). -/
def faultFlag (F : FrameWord) : Bool := F.getLsbD 16
/-- `SCV = F[2]` (R76). -/
def bitScv (F : FrameWord) : Bool := F.getLsbD 2
/-- `SCG = F[1]` (R76). -/
def bitScg (F : FrameWord) : Bool := F.getLsbD 1
/-- `OC = F[0]` (R76). -/
def bitOc (F : FrameWord) : Bool := F.getLsbD 0

/-! ### Frame classes (R78) -/

/-- The `mask` column of R78. -/
def frameMask : FrameClass → FrameWord
  | .rd => 0x00010000#32
  | .fltOc => 0x00010001#32
  | .fltScg => 0x00010003#32
  | .fltScv => 0x00010007#32
  | .fltUnk => 0x00010007#32

/-- The `match` column of R78. -/
def framePattern : FrameClass → FrameWord
  | .rd => 0x00000000#32
  | .fltOc => 0x00010001#32
  | .fltScg => 0x00010002#32
  | .fltScv => 0x00010004#32
  | .fltUnk => 0x00010000#32

/-- `F & mask = match` (R78). -/
def frameMatches (c : FrameClass) (F : FrameWord) : Bool :=
  F &&& frameMask c == framePattern c

/-- The class of a frame, the rows tried in the table's order; the last row is what is left, since
the five rows cover every frame (R78). -/
def classOf (F : FrameWord) : FrameClass :=
  if frameMatches .rd F then .rd
  else if frameMatches .fltOc F then .fltOc
  else if frameMatches .fltScg F then .fltScg
  else if frameMatches .fltScv F then .fltScv
  else .fltUnk

/-- The instruction a frame is: total, no frame is illegal (R84). -/
def decodeFrame (F : FrameWord) : Instr :=
  match classOf F with
  | .rd =>
    .rd (fieldTc14 F) (bit17 F) (fieldCj12 F) (bit3 F) (bitScv F) (bitScg F) (bitOc F)
  | .fltOc => .fltOc (fieldTc14 F) (bit17 F) (fieldCj12 F) (bit3 F) (bitScv F) (bitScg F)
  | .fltScg => .fltScg (fieldTc14 F) (bit17 F) (fieldCj12 F) (bit3 F) (bitScv F)
  | .fltScv => .fltScv (fieldTc14 F) (bit17 F) (fieldCj12 F) (bit3 F)
  | .fltUnk => .fltUnk (fieldTc14 F) (bit17 F) (fieldCj12 F) (bit3 F)

/-! ### Micro-operations (R79) -/

/-- The `mask` column of R79. -/
def uopMask : UopOp → Byte
  | .setr => 0xE1#8
  | .wait => 0xFF#8
  | .acq => 0xFF#8
  | .dec => 0xFF#8
  | .rpt => 0xE3#8
  | .loop => 0xE0#8
  | .halt => 0xFF#8

/-- The `match` column of R79. -/
def uopPattern : UopOp → Byte
  | .setr => 0x20#8
  | .wait => 0x40#8
  | .acq => 0x60#8
  | .dec => 0x80#8
  | .rpt => 0xA0#8
  | .loop => 0xC0#8
  | .halt => 0xE0#8

/-- `w & mask = match` (R79). -/
def uopMatches (o : UopOp) (w : Byte) : Bool := w &&& uopMask o == uopPattern o

/-- The seven rows, in the table's order. -/
def uopRows : List UopOp := [.setr, .wait, .acq, .dec, .rpt, .loop, .halt]

/-- `w[4:2]`, the channel of `SETR` and the label of `RPT` (R77). -/
def fieldCh (w : Byte) : Nat := (w.extractLsb' 2 3).toNat
/-- `en = w[1]` (R77). -/
def fieldEn (w : Byte) : Bool := w.getLsbD 1
/-- `t = w[4:0]` (R77). -/
def fieldTarget (w : Byte) : Nat := (w.extractLsb' 0 5).toNat

/-- The instruction of a row, its operands read from the word (R73, R77). -/
def uopInstr (o : UopOp) (w : Byte) : Instr :=
  match o with
  | .setr => .setr (fieldCh w) (fieldEn w)
  | .wait => .wait
  | .acq => .acq
  | .dec => .dec
  | .rpt => .rpt (fieldCh w)
  | .loop => .loop (fieldTarget w)
  | .halt => .halt

/-- The micro-operation of a ROM word, or the rejection of a reserved word (R79, R86). -/
def decodeUop (w : Byte) : Except DecodeError Instr :=
  match uopRows.find? (fun o => uopMatches o w) with
  | some o => .ok (uopInstr o w)
  | none => .error (.reservedUop w)

/-! ### The decoder on bytes -/

/-- The decoder: the format is given by where the bytes come from (R70). -/
def decode : Format → List Byte → Except DecodeError Instr
  | .uop8, [w] => decodeUop w
  | .uop8, bs => .error (.wrongLength .uop8 bs.length)
  | .frame32, [b0, b1, b2, b3] => .ok (decodeFrame (frameOfBytes b0 b1 b2 b3))
  | .frame32, bs => .error (.wrongLength .frame32 bs.length)

/-! ### The encoder -/

/-- The frame of a frame instruction's fields, most significant first (R71). -/
def packFrame (tc14 : BitVec 14) (b17 fault : Bool) (cj12 : BitVec 12) (b3 scv scg oc : Bool) :
    FrameWord :=
  tc14 ++ BitVec.ofBool b17 ++ BitVec.ofBool fault ++ cj12 ++ BitVec.ofBool b3 ++
    BitVec.ofBool scv ++ BitVec.ofBool scg ++ BitVec.ofBool oc

/-- The word `opc : operand bits` of `SETR`, `001ccce0` (R73). -/
def packSetr (ch : Nat) (en : Bool) : Byte :=
  0b001#3 ++ BitVec.ofNat 3 ch ++ BitVec.ofBool en ++ 0#1

/-- The word of `RPT`, `101lll00` (R73). -/
def packRpt (lbl : Nat) : Byte := 0b101#3 ++ BitVec.ofNat 3 lbl ++ 0#2

/-- The word of `LOOP`, `110ttttt` (R73). -/
def packLoop (t : Nat) : Byte := 0b110#3 ++ BitVec.ofNat 5 t

/-- The bytes of an instruction, as the hardware stores them: a frame's four bytes in the order
received, a micro-operation's one ROM word. -/
def encode : Instr → List Byte
  | .rd tc14 b17 cj12 b3 scv scg oc => bytesOfFrame (packFrame tc14 b17 false cj12 b3 scv scg oc)
  | .fltOc tc14 b17 cj12 b3 scv scg => bytesOfFrame (packFrame tc14 b17 true cj12 b3 scv scg true)
  | .fltScg tc14 b17 cj12 b3 scv => bytesOfFrame (packFrame tc14 b17 true cj12 b3 scv true false)
  | .fltScv tc14 b17 cj12 b3 => bytesOfFrame (packFrame tc14 b17 true cj12 b3 true false false)
  | .fltUnk tc14 b17 cj12 b3 => bytesOfFrame (packFrame tc14 b17 true cj12 b3 false false false)
  | .setr ch en => [packSetr ch en]
  | .wait => [0b01000000#8]
  | .acq => [0b01100000#8]
  | .dec => [0b10000000#8]
  | .rpt lbl => [packRpt lbl]
  | .loop t => [packLoop t]
  | .halt => [0b11100000#8]

/-! ### Words of the opcode table -/

/-- The instruction of a word numbered as spec/opcode_table.json numbers it: a row of 8 bits is one
ROM word, a row of 32 bits is the frame `F`, whose bit 0 is its least significant bit (R8, R90) and
whose bytes lie most significant first (R54; log entry 18). -/
def decodeTableWord (nbits w : Nat) : Option Instr :=
  if nbits = 8 then (decode .uop8 [BitVec.ofNat 8 w]).toOption
  else if nbits = 32 then (decode .frame32 (bytesOfFrame (BitVec.ofNat 32 w))).toOption
  else none

end Sys2Proof
end

