-- ==== Sys2Proof/Config.lean ====
section
/-! DEFINITION. What is fixed for the machine (00_scope.md R7), the types of the answers of the
external services (20_memory.md R56, R57, R60), and the free values: opaque constants without a body,
of which no value can be proved. -/

namespace Sys2Proof

/-- The fault status of a frame and of the register `FS` (10_state.md R31). The codes 5, 6, 7 are
never written, so the type has no such value (93_implementation_defined.md U12; log entry 13). -/
inductive FaultStatus where
  | none
  | openCircuit
  | shortToGround
  | shortToVcc
  | unknownFault
deriving DecidableEq, Repr, Inhabited

/-- The board-socket selector, an opaque value the block passes on and never inspects (R57).
DESIGN CHOICE, safe: a token (log entry 9). -/
structure Socket where
  token : Nat
deriving DecidableEq, Repr, Inhabited

/-- A pin identifier, an opaque value the block passes on and never inspects (R57).
DESIGN CHOICE, safe: a token (log entry 9). -/
structure PinId where
  token : Nat
deriving DecidableEq, Repr, Inhabited

/-- The answer of `lookupPin(socket, role)` (R57). -/
inductive LookupAnswer where
  | ok (p : PinId)
  | err
deriving DecidableEq, Repr, Inhabited

/-- The answer of `initPin`, `setDirection` or `setValue` (R57). -/
inductive PinAnswer where
  | ok
  | err
deriving DecidableEq, Repr, Inhabited

/-- The answer of `transfer(None, 4)`: any bytes, in the order received, or an error (R56, R60). -/
inductive BusAnswer where
  | ok (bytes : List Byte)
  | err
deriving DecidableEq, Repr, Inhabited

namespace Config

/-- `FRAME_BYTES` (R7). -/
abbrev frameBytes : Nat := 4
/-- `NCHAN` (R7): the logical channels are 1 to `nChan`. -/
abbrev nChan : Nat := 4
/-- `RESERVED_CH` (R7). -/
abbrev reservedCh : Nat := 3
/-- `ROM_DEPTH` (R7). -/
abbrev romDepth : Nat := 32
/-- The default of `SETTLE`, one time unit (R7, R33). -/
abbrev settleDefault : Nat := 1

/-- FREE VALUE: the selector the host sets at boot (R7 `SOCKET`, OPEN; log entry 9). -/
opaque socket : Socket
/-- FREE VALUE: the answer of lookup number `n` when the oracle lists none (R60; log entry 2). -/
opaque freeLookup : Nat → LookupAnswer
/-- FREE VALUE: the answer of pin call number `n` when the oracle lists none (R60; log entry 2). -/
opaque freePin : Nat → PinAnswer
/-- FREE VALUE: the answer of transfer number `n` when the oracle lists none (R60; log entry 2). -/
opaque freeTransfer : Nat → BusAnswer
/-- FREE VALUE: the level of `STOP` at `LOOP` step number `n` when the oracle lists none (R156;
log entries 2 and 12). -/
opaque freeStop : Nat → Bool

/-- What `FRAME` holds before anything has written it: unspecified, "not zero, not any fixed
pattern" (70_reset_and_hazards.md R210). DESIGN CHOICE: an opaque constant (log entry 3). -/
opaque unwrittenFrame : FrameWord
/-- What `TC` holds before anything has written it (R210; log entry 3). -/
opaque unwrittenTc : Count
/-- What `CJ` holds before anything has written it (R210; log entry 3). -/
opaque unwrittenCj : Count
/-- What `FS` holds before anything has written it (R210; log entry 3). -/
opaque unwrittenFs : FaultStatus

end Config

end Sys2Proof
end

