-- ==== Sys2Proof/Machine/State.lean ====
section
/-! DEFINITION. The state of the block as plain data (10_state.md R20, R40), the service-call events of
20_memory.md R61, the outcomes that are no next state, and reset (70_reset_and_hazards.md R210). -/

namespace Sys2Proof.Machine

/-- The register `ERR` (10_state.md R32, 60_exceptions.md R181). -/
inductive ErrCode where
  | none
  | busTransferFailure
  | reservedChannel
  | invalidChannel
  | pinLookupFailed
  | gpioFailure
deriving DecidableEq, Repr

/-- The register `RUN` (R34). -/
inductive RunState where
  | running
  | halted
  | faulted
deriving DecidableEq, Repr

/-- The register `FLTR` (R35). -/
inductive FaultReason where
  | none
  | reservedUop
  | frameNotValid
  | nothingToReport
deriving DecidableEq, Repr

/-- A shadow relay-state cell (R36). -/
inductive RelayState where
  | off
  | on
  | unknown
deriving DecidableEq, Repr

/-- The pin roles (41_relay_resolver.md R131). -/
inductive Role where
  | pwm
  | reset
  | analog
deriving DecidableEq, Repr

/-- The direction argument of `setDirection`, always `Output` (R57). -/
inductive Direction where
  | output
deriving DecidableEq, Repr

/-- The report record (42_sequencer.md R155). -/
inductive ReportRecord where
  | reading (tc cj : Count)
  | sensorFault (fs : FaultStatus)
  | error (e : ErrCode)
deriving DecidableEq, Repr

/-- A service call with its arguments and its answer (R61). -/
inductive Event where
  | lookupPin (socket : Socket) (role : Role) (answer : LookupAnswer)
  | initPin (p : PinId) (answer : PinAnswer)
  | setDirection (p : PinId) (dir : Direction) (answer : PinAnswer)
  | setValue (p : PinId) (b : Bool) (answer : PinAnswer)
  | delay (settle : Nat)
  | transfer (tx : Option (List Byte)) (rxLen : Nat) (answer : BusAnswer)
  | report (lbl : BitVec 3) (record : ReportRecord)
deriving DecidableEq, Repr

/-- The oracle: what the outside world answers at call number `n` of each kind, and the level of
`STOP` at `LOOP` step number `n`. A call past the end of its list is answered by a free value of
Config (R60, R156; log entries 2 and 12). -/
structure Oracle where
  lookups : List LookupAnswer
  pins : List PinAnswer
  transfers : List BusAnswer
  stops : List Bool
deriving DecidableEq, Repr

/-- How many answers of each kind have been taken: the MODEL's own counters, which say what the next
answer is (log entry 2). -/
structure Calls where
  lookups : Nat
  pins : Nat
  transfers : Nat
  stops : Nat
deriving DecidableEq, Repr

/-- The parameters of the step that the spec does not count as state (00_scope.md R14, 10_state.md
R33). No operation writes them (log entry 1). -/
structure Inputs where
  /-- The ROM's cells that differ from the canonical program (20_memory.md R53; log entry 8). -/
  PROG : List Host.Cell
  SOCKET : Socket
  SETTLE : Nat
  oracle : Oracle
deriving DecidableEq, Repr

/-- The state of the block (R20, R40), its inputs, and the trace a model records (R61). -/
structure State where
  /-- Last captured frame (R22); it counts only while `FV` is 1. -/
  FRAME : FrameWord
  /-- Thermocouple count, 0.25 °C (R23); it counts only while `DV` is 1. -/
  TC : Count
  /-- Internal count, 0.0625 °C (R24); it counts only while `DV` is 1. -/
  CJ : Count
  /-- Fault status (R31); it counts only while `DV` is 1. -/
  FS : FaultStatus
  /-- `FRAME` holds a captured frame not yet reported (R27). -/
  FV : Bool
  /-- `TC`, `CJ`, `FS` hold the decode of `FRAME` (R27). -/
  DV : Bool
  /-- `TC`, `CJ` are a valid TemperatureReading (R27). -/
  RV : Bool
  /-- First recoverable error of the phase (R32). -/
  ERR : ErrCode
  /-- Micro-program counter (R25). -/
  upc : RomAddr
  /-- Run state (R34). -/
  RUN : RunState
  /-- Fault reason (R35). -/
  FLTR : FaultReason
  /-- Shadow relay state `RS[1]` (R36). -/
  RS1 : RelayState
  /-- Shadow relay state `RS[2]` (R36). -/
  RS2 : RelayState
  /-- Shadow relay state `RS[4]` (R36). -/
  RS4 : RelayState
  /-- The inputs (R14, R33). -/
  inp : Inputs
  /-- The model's own counters of answers taken. -/
  calls : Calls
  /-- The service calls made, oldest first (R61). -/
  TRACE : List Event
deriving DecidableEq, Repr

/-- A step that is asked for in a state in which no step exists (42_sequencer.md R150, R163). These
are no sequencer faults: a sequencer fault is a next state (60_exceptions.md R194; log entry 5). -/
inductive Fault where
  /-- Raised by `step` while `RUN` is `Halted`: the run has ended and there is no step. Safe. -/
  | haltedNoStep
  /-- Raised by `step` while `RUN` is `Faulted`: only reset leaves this state. Safe. -/
  | faultedNoStep
deriving DecidableEq, Repr

/-- An instruction without a meaning. -/
inductive Refusal where
  /-- Raised by an arm of `exec` for an instruction that has no meaning yet; no arm does. Safe. -/
  | notModelled (mnemonic : String)
deriving DecidableEq, Repr

/-- What a meaning and a step answer. -/
abbrev Result := Host.Outcome State Fault Refusal

/-- The oracle that lists nothing: every answer is a free value. -/
def Oracle.free : Oracle := { lookups := [], pins := [], transfers := [], stops := [] }

/-- No answer taken yet. -/
def Calls.zero : Calls := { lookups := 0, pins := 0, transfers := 0, stops := 0 }

/-- The machine right after reset with the inputs the host holds (R210, R211, R213). `FRAME`, `TC`,
`CJ`, `FS` are unspecified (log entry 3). -/
def State.resetWith (inp : Inputs) (calls : Calls) : State where
  FRAME := Config.unwrittenFrame
  TC := Config.unwrittenTc
  CJ := Config.unwrittenCj
  FS := Config.unwrittenFs
  FV := false
  DV := false
  RV := false
  ERR := .none
  upc := 0#5
  RUN := .running
  FLTR := .none
  RS1 := .unknown
  RS2 := .unknown
  RS4 := .unknown
  inp := inp
  calls := calls
  TRACE := []

/-- The inputs of the default configuration: the canonical program, which is what an empty list
reads as (R158), an open socket, one time unit (R7), an oracle that lists nothing. -/
def Inputs.default : Inputs where
  PROG := []
  SOCKET := Config.socket
  SETTLE := Config.settleDefault
  oracle := Oracle.free

/-- The machine right after reset (R210). -/
def State.reset : State := State.resetWith Inputs.default Calls.zero

end Sys2Proof.Machine
end

