-- ==== Sys2Proof/Machine/Flags.lean ====
section
/-! DEFINITION. The derived signals and flag computations (10_state.md R27, R28), what a register holds
while its valid flag says so (R22 to R24, R31), and the codes of the coded registers (R31, R32, R34 to
R36, 41_relay_resolver.md R131). -/

namespace Sys2Proof.Machine

/-- `skip = (x[ERR] != 0)` (R28). -/
def State.skip (s : State) : Bool := s.ERR != .none

/-- What `DEC` writes to `RV`: 1 exactly when the decoded `FS` is None (R27, 42_sequencer.md R154). -/
def readingFlag (fs : FaultStatus) : Bool := fs == .none

/-- What `FRAME` holds: a value only while `FV` is 1 (R22; log entry 4). -/
def State.frameValue (s : State) : Option FrameWord := if s.FV then some s.FRAME else none

/-- What `TC` holds: a value only while `DV` is 1 (R23; log entry 4). -/
def State.tcValue (s : State) : Option Count := if s.DV then some s.TC else none

/-- What `CJ` holds: a value only while `DV` is 1 (R24; log entry 4). -/
def State.cjValue (s : State) : Option Count := if s.DV then some s.CJ else none

/-- What `FS` holds: a value only while `DV` is 1 (R31; log entry 4). -/
def State.fsValue (s : State) : Option FaultStatus := if s.DV then some s.FS else none

/-- The 3-bit code of `FS` (R31). -/
def fsCode : FaultStatus → BitVec 3
  | .none => 0#3
  | .openCircuit => 1#3
  | .shortToGround => 2#3
  | .shortToVcc => 3#3
  | .unknownFault => 4#3

/-- The 3-bit code of `ERR` (R32, 60_exceptions.md R181). -/
def errCode : ErrCode → BitVec 3
  | .none => 0#3
  | .busTransferFailure => 1#3
  | .reservedChannel => 2#3
  | .invalidChannel => 3#3
  | .pinLookupFailed => 4#3
  | .gpioFailure => 5#3

/-- The 2-bit code of `RUN` (R34). -/
def runCode : RunState → BitVec 2
  | .running => 0#2
  | .halted => 1#2
  | .faulted => 2#2

/-- The 2-bit code of `FLTR` (R35). -/
def faultCode : FaultReason → BitVec 2
  | .none => 0#2
  | .reservedUop => 1#2
  | .frameNotValid => 2#2
  | .nothingToReport => 3#2

/-- The 2-bit code of a cell of `RS` (R36). -/
def relayCode : RelayState → BitVec 2
  | .off => 0#2
  | .on => 1#2
  | .unknown => 2#2

/-- The 2-bit code of a role (R131). -/
def roleCode : Role → BitVec 2
  | .pwm => 1#2
  | .reset => 2#2
  | .analog => 3#2

end Sys2Proof.Machine
end

