-- ==== Sys2Proof/Machine/Operands.lean ====
section
/-! DEFINITION. Operand assembly: the two temperatures of a frame (30_encoding.md R74, R75,
40_frame_decoder.md R101 to R107) and the channel-to-role map (41_relay_resolver.md R130 to R133). -/

namespace Sys2Proof.Machine

/-- `hi16 = F[31:16]` (R101). -/
def hi16 (F : FrameWord) : BitVec 16 := F.extractLsb' 16 16
/-- `hi16b = F[15:0]` (R101). -/
def hi16b (F : FrameWord) : BitVec 16 := F.extractLsb' 0 16

/-- `frac = (hi16 >> 2) & 0b11 = F[19:18]`, unsigned quarters (R102). -/
def fracPart (F : FrameWord) : BitVec 2 := F.extractLsb' 18 2
/-- `intPart = hi16 >> 4 = F[31:20]`, two's complement (R103). -/
def intPart (F : FrameWord) : BitVec 12 := F.extractLsb' 20 12
/-- `fracInt = F[7:4]`, unsigned sixteenths (R106). -/
def fracInt (F : FrameWord) : BitVec 4 := F.extractLsb' 4 4
/-- `intInt = F[15:8]`, two's complement (R106). -/
def intInt (F : FrameWord) : BitVec 8 := F.extractLsb' 8 8

/-- `tc = sext_16(F[31:18])` (R105). -/
def tcWord (tc14 : BitVec 14) : Count := tc14.signExtend 16
/-- `cj = sext_16(F[15:4])` (R107). -/
def cjWord (cj12 : BitVec 12) : Count := cj12.signExtend 16

/-- The errors of `resolve` (R135). -/
inductive ResolveError where
  | reservedChannel
  | invalidChannel
  | pinLookupFailed
deriving DecidableEq, Repr

/-- The code `raise` records for an error of the resolver (60_exceptions.md R181). -/
def resolveErrCode : ResolveError → ErrCode
  | .reservedChannel => .reservedChannel
  | .invalidChannel => .invalidChannel
  | .pinLookupFailed => .pinLookupFailed

/-- `roleOf`, the channel-to-role map: a pure function of the one-based channel (R131 to R133). -/
def roleOf : Nat → Except ResolveError Role
  | 1 => .ok .pwm
  | 2 => .ok .reset
  | 3 => .error .reservedChannel
  | 4 => .ok .analog
  | _ => .error .invalidChannel

end Sys2Proof.Machine
end

