-- ==== Sys2Proof/Machine/Ops.lean ====
section
/-! DEFINITION. The shared operations: the micro-program ROM (20_memory.md R50 to R55), the service
calls (R56 to R61), the writes to registers, and the two exceptional events, `raise E` and `fault W`
(60_exceptions.md R182, R194), with what closes a degraded phase (R192). -/

namespace Sys2Proof.Machine

/-! ### The ROM -/

/-- The canonical program and its fill (42_sequencer.md R158). -/
def canonicalBytes : List Byte :=
  [0x28#8, 0x30#8, 0x26#8, 0x40#8, 0x60#8, 0x80#8, 0xA4#8] ++
  [0x24#8, 0x2A#8, 0x40#8, 0x60#8, 0x80#8, 0xA8#8] ++
  [0x28#8, 0x32#8, 0x40#8, 0x60#8, 0x80#8, 0xB0#8] ++
  [0xC0#8, 0xE0#8]

/-- What an address of the ROM that is not listed reads as: the default contents, `PROG[21]` to
`PROG[31]` equal to 0x00 (R53, R158). Addresses are below 32 (R51). -/
def Memory.unlisted (a : Nat) : Byte := canonicalBytes.getD a 0x00#8

/-- The byte at an address. -/
def Memory.read : List Host.Cell → Nat → Byte
  | [], a => Memory.unlisted a
  | (k, b) :: rest, a => if k = a then b else Memory.read rest a

/-- The host's store of one ROM word before reset is released (R199 row "boot"); no operation of the
block writes the ROM (R53). It keeps the canonical form. -/
def Memory.write : List Host.Cell → Nat → Byte → List Host.Cell
  | [], a, v => if v = Memory.unlisted a then [] else [(a, v)]
  | (k, b) :: rest, a, v =>
    if a < k then (if v = Memory.unlisted a then (k, b) :: rest else (a, v) :: (k, b) :: rest)
    else if a = k then (if v = Memory.unlisted a then rest else (a, v) :: rest)
    else (k, b) :: Memory.write rest a v

/-- The cells from address `lo` on are listed in the canonical form. -/
def Memory.wfFrom : Nat → List Host.Cell → Bool
  | _, [] => true
  | lo, (k, b) :: rest =>
    decide (lo ≤ k) && decide (k < Config.romDepth) && (b != Memory.unlisted k) &&
      Memory.wfFrom (k + 1) rest

/-- The canonical form: addresses strictly rising, all in the ROM, no entry equal to what an unlisted
address reads as (log entry 8). -/
def Memory.wf (m : List Host.Cell) : Bool := Memory.wfFrom 0 m

/-- The host's setting of `PROG` from address `a` on (R199, R213). -/
def Memory.loadBytes : List Host.Cell → Nat → List Byte → List Host.Cell
  | m, _, [] => m
  | m, a, b :: bs => Memory.loadBytes (Memory.write m a b) (a + 1) bs

/-- A whole ROM of 32 words, the words not given 0x00 as in 95_test_vectors.md part 3 (R53). -/
def Memory.ofProgram (bs : List Byte) : List Host.Cell :=
  Memory.loadBytes [] 0 ((bs ++ List.replicate Config.romDepth 0x00#8).take Config.romDepth)

/-- `MemRead(ROM, a, 1)`: it cannot fail (R52). -/
def State.romRead (s : State) (a : RomAddr) : Byte := Memory.read s.inp.PROG a.toNat

/-- The fetch of a step (42_sequencer.md R150). -/
def State.fetch (s : State) : Byte := s.romRead s.upc

/-- The view `RXBUF`: byte `off` of `FRAME`, offset 0 the most significant (R50, R51, R54). -/
def State.rxByte (s : State) (off : BitVec 2) : Byte :=
  s.FRAME.extractLsb' (8 * (3 - off.toNat)) 8

/-! ### The answers of the outside world -/

/-- The answer the next lookup gets (R60). -/
def State.lookupAnswer (s : State) : LookupAnswer :=
  s.inp.oracle.lookups.getD s.calls.lookups (Config.freeLookup s.calls.lookups)

/-- The answer the `k`-th of the pin calls still to come gets, the next being number 0 (R60). -/
def State.pinAnswer (s : State) (k : Nat) : PinAnswer :=
  s.inp.oracle.pins.getD (s.calls.pins + k) (Config.freePin (s.calls.pins + k))

/-- The answer the next transfer gets (R60). -/
def State.busAnswer (s : State) : BusAnswer :=
  s.inp.oracle.transfers.getD s.calls.transfers (Config.freeTransfer s.calls.transfers)

/-- The level of `STOP` that the next `LOOP` samples (42_sequencer.md R156). -/
def State.stopLevel (s : State) : Bool :=
  s.inp.oracle.stops.getD s.calls.stops (Config.freeStop s.calls.stops)

/-! ### Register writes -/

/-- `TRACE` gains one event (R61). -/
def State.emit (s : State) (e : Event) : State := { s with TRACE := s.TRACE ++ [e] }

/-- `pc <- pc + 1`, modulo 32 (10_state.md R25). -/
def State.advance (s : State) : State := { s with upc := s.upc + 1#5 }

/-- `pc <- t` (00_scope.md R9). -/
def State.jump (s : State) (t : RomAddr) : State := { s with upc := t }

/-- `x[DV] <- 0; x[RV] <- 0`: a new capture invalidates the old decode (42_sequencer.md R153). -/
def State.invalidateDecode (s : State) : State := { s with DV := false, RV := false }

/-- `x[FV] <- 0`: `FRAME` holds no value (R22). -/
def State.invalidateFrame (s : State) : State := { s with FV := false }

/-- All 32 bits of `FRAME` at once, and `FV <- 1` (R22, R153). -/
def State.capture (s : State) (F : FrameWord) : State := { s with FRAME := F, FV := true }

/-- The result of a decode in its registers, with `DV <- 1` (42_sequencer.md R154). -/
def State.latch (s : State) (tc cj : Count) (fs : FaultStatus) (rv : Bool) : State :=
  { s with TC := tc, CJ := cj, FS := fs, DV := true, RV := rv }

/-- The end of a phase: `ERR`, `FV`, `DV`, `RV` cleared (R155, 60_exceptions.md R192). -/
def State.closePhase (s : State) : State :=
  { s with ERR := .none, FV := false, DV := false, RV := false }

/-- `x[RUN] <- 1` (42_sequencer.md R157). -/
def State.halt (s : State) : State := { s with RUN := .halted }

/-- `RS[ch] <- v`; there is a cell for the channels 1, 2 and 4 only (10_state.md R36). -/
def State.setRelay (s : State) (ch : Nat) (v : RelayState) : State :=
  match ch with
  | 1 => { s with RS1 := v }
  | 2 => { s with RS2 := v }
  | 4 => { s with RS4 := v }
  | _ => s

/-- `RS[ch]`, where there is such a cell (R36). -/
def State.relay (s : State) (ch : Nat) : Option RelayState :=
  match ch with
  | 1 => some s.RS1
  | 2 => some s.RS2
  | 4 => some s.RS4
  | _ => none

/-! ### Errors and faults -/

/-- `raise E`: the first error of the phase is kept, and the next micro-operation follows (R182,
R183). The way back is `closePhase`, in `RPT` (R192). -/
def State.raise (s : State) (e : ErrCode) : State :=
  { s with ERR := if s.ERR = .none then e else s.ERR, upc := s.upc + 1#5 }

/-- `fault W`: the sequencer is `Faulted` with the reason, `pc` unchanged (R194; log entry 5). -/
def State.takeFault (s : State) (w : FaultReason) : State := { s with RUN := .faulted, FLTR := w }

/-! ### Service calls -/

/-- `Svc.lookupPin(SOCKET, role)` (R57). -/
def State.svcLookupPin (s : State) (role : Role) : LookupAnswer × State :=
  (s.lookupAnswer,
    { s with
      calls := { s.calls with lookups := s.calls.lookups + 1 }
      TRACE := s.TRACE ++ [.lookupPin s.inp.SOCKET role s.lookupAnswer] })

/-- One pin call: the next answer of the pin service, and the event it makes (R57). -/
def State.pinCall (s : State) (e : PinAnswer → Event) : PinAnswer × State :=
  (s.pinAnswer 0,
    { s with
      calls := { s.calls with pins := s.calls.pins + 1 }
      TRACE := s.TRACE ++ [e (s.pinAnswer 0)] })

/-- `Svc.initPin(p)` (R57). -/
def State.svcInitPin (s : State) (p : PinId) : PinAnswer × State := s.pinCall (.initPin p)

/-- `Svc.setDirection(p, Output)` (R57). -/
def State.svcSetDirection (s : State) (p : PinId) : PinAnswer × State :=
  s.pinCall (.setDirection p .output)

/-- `MemWrite(GPIO, p, 1, b)`: one `setValue(p, b)` (R52, R57). -/
def State.svcSetValue (s : State) (p : PinId) (b : Bool) : PinAnswer × State :=
  s.pinCall (.setValue p b)

/-- `Svc.delay(SETTLE)`: it cannot fail (R58). -/
def State.svcDelay (s : State) : State := s.emit (.delay s.inp.SETTLE)

/-- `MemRead(BUS, 0, 4)`: one `transfer(None, 4)` (R52, R56). -/
def State.svcTransfer (s : State) : BusAnswer × State :=
  (s.busAnswer,
    { s with
      calls := { s.calls with transfers := s.calls.transfers + 1 }
      TRACE := s.TRACE ++ [.transfer none Config.frameBytes s.busAnswer] })

/-- `MemWrite(RPT, lbl, 1, rec)`: one `report(lbl, rec)`, which cannot fail (R52, R59). -/
def State.svcReport (s : State) (lbl : BitVec 3) (r : ReportRecord) : State :=
  s.emit (.report lbl r)

/-- The sample of `STOP` in a `LOOP` step (42_sequencer.md R156); it is no service call and makes no
event (R61). -/
def State.sampleStop (s : State) : Bool × State :=
  (s.stopLevel, { s with calls := { s.calls with stops := s.calls.stops + 1 } })

/-! ### The host (60_exceptions.md R199) -/

/-- Reset between two steps: every register at its reset value, the inputs unchanged (10_state.md R33,
R210). The outside world's answers go on where they were. -/
def State.applyReset (s : State) : State := State.resetWith s.inp s.calls

/-- What a host may read at any time (R199 row "status"). DESIGN CHOICE, safe: the spec disagrees with
itself here and no ruling settles it. R198 says that `FLTR`, `ERR` and `RUN` are the only status, R199
adds `upc` and `RS`, R30 says that the registers of its section (`FS` among them) are output ports; the
model takes R199's list (log entry 20). -/
structure HostStatus where
  RUN : BitVec 2
  FLTR : BitVec 2
  ERR : BitVec 3
  upc : RomAddr
  RS1 : BitVec 2
  RS2 : BitVec 2
  RS4 : BitVec 2
deriving DecidableEq, Repr

/-- The status ports, by R199's list (R30, R198; log entry 20): reading changes nothing. -/
def State.hostStatus (s : State) : HostStatus where
  RUN := runCode s.RUN
  FLTR := faultCode s.FLTR
  ERR := errCode s.ERR
  upc := s.upc
  RS1 := relayCode s.RS1
  RS2 := relayCode s.RS2
  RS4 := relayCode s.RS4

end Sys2Proof.Machine
end

