-- ==== Sys2Proof/Machine/Relay.lean ====
section
/-! DEFINITION. The RelayChannelResolver's `resolve` and the micro-operation `SETR`
(41_relay_resolver.md). -/

namespace Sys2Proof.Machine

/-- `resolve(ch)`: the channel check, then one lookup (R135). -/
def State.resolve (s : State) (ch : Nat) : Except ResolveError PinId × State :=
  match roleOf ch with
  | .error e => (.error e, s)
  | .ok role =>
    match s.svcLookupPin role with
    | (.err, s1) => (.error .pinLookupFailed, s1)
    | (.ok p, s1) => (.ok p, s1)

/-- What `SETR` does to the shadow relay state when `resolve` fails: a failed lookup makes the cell
`Unknown`, a reserved or out-of-range channel leaves every cell unchanged (R136, R137). -/
def State.relayAfterResolveError (s : State) (ch : Nat) : ResolveError → State
  | .reservedChannel => s
  | .invalidChannel => s
  | .pinLookupFailed => s.setRelay ch .unknown

/-- A failed pin call of `SETR`: the cell is `Unknown`, the error `GpioFailure` (R136, R137). -/
def State.pinFailure (s : State) (ch : Nat) : State :=
  (s.setRelay ch .unknown).raise .gpioFailure

/-- The three pin calls of `SETR`, in order, the first failure aborting (R136). -/
def State.drivePin (s : State) (ch : Nat) (en : Bool) (p : PinId) : State :=
  match s.svcInitPin p with
  | (.err, s1) => s1.pinFailure ch
  | (.ok, s1) =>
    match s1.svcSetDirection p with
    | (.err, s2) => s2.pinFailure ch
    | (.ok, s2) =>
      match s2.svcSetValue p en with
      | (.err, s3) => s3.pinFailure ch
      | (.ok, s3) => (s3.setRelay ch (if en then .on else .off)).advance

/-- `SETR ch, en`: set the state of one relay (R136). -/
def execSetr (ch : Nat) (en : Bool) (s : State) : Result :=
  if s.skip && en then .next s.advance
  else
    match s.resolve ch with
    | (.error e, s1) => .next ((s1.relayAfterResolveError ch e).raise (resolveErrCode e))
    | (.ok p, s1) => .next (s1.drivePin ch en p)

end Sys2Proof.Machine
end

