-- ==== Sys2Proof/Machine/FrameDecoder.lean ====
section
/-! DEFINITION. The FrameDecoder (40_frame_decoder.md): the pure function, its result, the reference
function of R118, and the meanings of the five frame classes. -/

namespace Sys2Proof.Machine

/-! ### The function -/

/-- `fsOf`, the fault-status priority encoder (R109). -/
def fsOf (F : FrameWord) : FaultStatus :=
  if faultFlag F = false then .none
  else if bitOc F then .openCircuit
  else if bitScg F then .shortToGround
  else if bitScv F then .shortToVcc
  else .unknownFault

/-- The triple `(tc, cj, fs)` of R100. -/
structure Decoded where
  tc : Count
  cj : Count
  fs : FaultStatus
deriving DecidableEq, Repr

/-- `decode(F)`, total, with no state of its own (R100, R119). -/
def decodeTriple (F : FrameWord) : Decoded where
  tc := tcWord (fieldTc14 F)
  cj := cjWord (fieldCj12 F)
  fs := fsOf F

/-- `tcQ`, the thermocouple temperature in quarter degrees (R104). -/
def tcQ (F : FrameWord) : Int := 4 * (intPart F).toInt + (fracPart F).toNat

/-- `cjQ`, the internal temperature in sixteenth degrees (R106). -/
def cjQ (F : FrameWord) : Int := 16 * (intInt F).toInt + (fracInt F).toNat

/-- A TemperatureReading as integer counts (00_scope.md R10, R115). -/
structure TemperatureReading where
  tcQ : Int
  cjQ : Int
deriving DecidableEq, Repr

/-- The decode as the document's `Result` (R115). -/
def decodeResult (F : FrameWord) : Except FaultStatus TemperatureReading :=
  if fsOf F = .none then
    .ok { tcQ := (fieldTc14 F).toInt, cjQ := (fieldCj12 F).toInt }
  else .error (fsOf F)

/-! ### The reference function `decodeLiteral`, not implemented by the block (R118) -/

/-- `litTcQ` (R118). -/
def litTcQ (F : FrameWord) : Nat := 4 * (intPart F).toNat + (fracPart F).toNat

/-- `litCjQ`, with the printed shift 9 and five-bit mask (R118). -/
def litCjQ (F : FrameWord) : Nat := 16 * (F.extractLsb' 9 7).toNat + (F.extractLsb' 4 5).toNat

/-- What the ten steps compute with the literals as printed and nothing sign-extended (R118). -/
def decodeLiteral (F : FrameWord) : Nat × Nat × FaultStatus := (litTcQ F, litCjQ F, fsOf F)

/-! ### The five frame classes: what `DEC` does with a captured frame of the class (R110 to R114,
42_sequencer.md R154; log entry 6) -/

/-- `RD`, a reading (R110). The bits 17, 3 and 2:0 are ignored. -/
def execRd (tc14 : BitVec 14) (_b17 : Bool) (cj12 : BitVec 12) (_b3 _scv _scg _oc : Bool)
    (s : State) : Result :=
  .next (s.latch (tcWord tc14) (cjWord cj12) .none true).advance

/-- `FLT.OC`, open circuit (R111). -/
def execFltOc (tc14 : BitVec 14) (_b17 : Bool) (cj12 : BitVec 12) (_b3 _scv _scg : Bool)
    (s : State) : Result :=
  .next (s.latch (tcWord tc14) (cjWord cj12) .openCircuit false).advance

/-- `FLT.SCG`, short to ground (R112). -/
def execFltScg (tc14 : BitVec 14) (_b17 : Bool) (cj12 : BitVec 12) (_b3 _scv : Bool)
    (s : State) : Result :=
  .next (s.latch (tcWord tc14) (cjWord cj12) .shortToGround false).advance

/-- `FLT.SCV`, short to Vcc (R113). -/
def execFltScv (tc14 : BitVec 14) (_b17 : Bool) (cj12 : BitVec 12) (_b3 : Bool)
    (s : State) : Result :=
  .next (s.latch (tcWord tc14) (cjWord cj12) .shortToVcc false).advance

/-- `FLT.UNK`, the inconsistent frame (R114). -/
def execFltUnk (tc14 : BitVec 14) (_b17 : Bool) (cj12 : BitVec 12) (_b3 : Bool)
    (s : State) : Result :=
  .next (s.latch (tcWord tc14) (cjWord cj12) .unknownFault false).advance

/-- The FrameDecoder at work on a captured frame: the meaning of the frame's own class. -/
def runFrame (F : FrameWord) (s : State) : Result :=
  match classOf F with
  | .rd =>
    execRd (fieldTc14 F) (bit17 F) (fieldCj12 F) (bit3 F) (bitScv F) (bitScg F) (bitOc F) s
  | .fltOc => execFltOc (fieldTc14 F) (bit17 F) (fieldCj12 F) (bit3 F) (bitScv F) (bitScg F) s
  | .fltScg => execFltScg (fieldTc14 F) (bit17 F) (fieldCj12 F) (bit3 F) (bitScv F) s
  | .fltScv => execFltScv (fieldTc14 F) (bit17 F) (fieldCj12 F) (bit3 F) s
  | .fltUnk => execFltUnk (fieldTc14 F) (bit17 F) (fieldCj12 F) (bit3 F) s

end Sys2Proof.Machine
end

