-- ==== Sys2Proof/Machine/Sequencer.lean ====
section
/-! DEFINITION. The other micro-operations of the sequencer: `WAIT`, `ACQ`, `DEC`, `RPT`, `LOOP`,
`HALT` (42_sequencer.md R151 to R157). -/

namespace Sys2Proof.Machine

/-- `WAIT`: the settle wait (R152). -/
def execWait (s : State) : Result :=
  if s.skip then .next s.advance else .next s.svcDelay.advance

/-- `ACQ`: acquire one frame (R153). An answer of other than 4 bytes is a failure too (20_memory.md
R56). -/
def execAcq (s : State) : Result :=
  if s.skip then .next s.advance
  else
    match s.invalidateDecode.svcTransfer with
    | (.ok [b0, b1, b2, b3], s1) => .next (s1.capture (frameOfBytes b0 b1 b2 b3)).advance
    | (.ok _, s1) => .next (s1.invalidateFrame.raise .busTransferFailure)
    | (.err, s1) => .next (s1.invalidateFrame.raise .busTransferFailure)

/-- `DEC`: decode the captured frame (R154); what a frame does is the meaning of its class. -/
def execDec (s : State) : Result :=
  if s.skip then .next s.advance
  else if s.FV then runFrame s.FRAME s
  else .next (s.takeFault .frameNotValid)

/-- The record `RPT` emits: an error over a decode, a sensor fault over a reading (R155,
60_exceptions.md R190). -/
def State.reportRecord (s : State) : Option ReportRecord :=
  if s.ERR ≠ .none then some (.error s.ERR)
  else if s.DV && s.RV then some (.reading s.TC s.CJ)
  else if s.DV then some (.sensorFault s.FS)
  else none

/-- `RPT lbl`: report the outcome of the phase and close the phase (R155). -/
def execRpt (lbl : Nat) (s : State) : Result :=
  match s.reportRecord with
  | some r => .next (s.svcReport (BitVec.ofNat 3 lbl) r).closePhase.advance
  | none => .next (s.takeFault .nothingToReport)

/-- `LOOP t`: loop back unless stopped (R156). -/
def execLoop (t : Nat) (s : State) : Result :=
  match s.sampleStop with
  | (false, s1) => .next (s1.jump (BitVec.ofNat 5 t))
  | (true, s1) => .next s1.advance

/-- `HALT`: end the run; `pc` keeps the address of the `HALT` (R157). -/
def execHalt (s : State) : Result := .next s.halt

/-! ### The packed form of a report, 40 bits (R155) -/

/-- `kind`: 0 `Reading`, 1 `SensorFault`, 2 `Error`. -/
def recordKind : ReportRecord → BitVec 2
  | .reading _ _ => 0#2
  | .sensorFault _ => 1#2
  | .error _ => 2#2

/-- `code`: the fault status, the error, or 0. -/
def recordCode : ReportRecord → BitVec 3
  | .reading _ _ => 0#3
  | .sensorFault fs => fsCode fs
  | .error e => errCode e

/-- `tc`, which only a `Reading` carries. -/
def recordTc : ReportRecord → Count
  | .reading tc _ => tc
  | .sensorFault _ => 0#16
  | .error _ => 0#16

/-- `cj`, which only a `Reading` carries. -/
def recordCj : ReportRecord → Count
  | .reading _ cj => cj
  | .sensorFault _ => 0#16
  | .error _ => 0#16

/-- `lbl[2:0] : kind[1:0] : code[2:0] : tc[15:0] : cj[15:0]`. -/
def packReport (lbl : BitVec 3) (r : ReportRecord) : BitVec 40 :=
  lbl ++ recordKind r ++ recordCode r ++ recordTc r ++ recordCj r

end Sys2Proof.Machine
end

