-- ==== Sys2Proof/Machine/Dispatch.lean ====
section
/-! DEFINITION. One arm per constructor of `Instr`: the meaning of each instruction. -/

namespace Sys2Proof.Machine

def exec (i : Instr) (s : State) : Host.Outcome State Fault Refusal :=
  match i with
  -- the frame classes, format FRAME32
  | .rd tc14 b17 cj12 b3 scv scg oc => Sys2Proof.Machine.execRd tc14 b17 cj12 b3 scv scg oc s
  | .fltOc tc14 b17 cj12 b3 scv scg => Sys2Proof.Machine.execFltOc tc14 b17 cj12 b3 scv scg s
  | .fltScg tc14 b17 cj12 b3 scv => Sys2Proof.Machine.execFltScg tc14 b17 cj12 b3 scv s
  | .fltScv tc14 b17 cj12 b3 => Sys2Proof.Machine.execFltScv tc14 b17 cj12 b3 s
  | .fltUnk tc14 b17 cj12 b3 => Sys2Proof.Machine.execFltUnk tc14 b17 cj12 b3 s
  -- the micro-operations, format UOP8
  | .setr ch en => Sys2Proof.Machine.execSetr ch en s
  | .wait => Sys2Proof.Machine.execWait s
  | .acq => Sys2Proof.Machine.execAcq s
  | .dec => Sys2Proof.Machine.execDec s
  | .rpt lbl => Sys2Proof.Machine.execRpt lbl s
  | .loop t => Sys2Proof.Machine.execLoop t s
  | .halt => Sys2Proof.Machine.execHalt s

end Sys2Proof.Machine
end

