-- ==== Sys2Proof/Machine/Step.lean ====
section
/-! DEFINITION. One step of the sequencer (42_sequencer.md R150), and the placing of one instruction
where the next step takes it. -/

namespace Sys2Proof.Machine

/-- One step: fetch, decode, execute; a reserved word is the sequencer fault `ReservedUop`, before
`skip` is considered (R150, 60_exceptions.md R190 (e)). While `RUN` is not `Running` no step exists
(R34, R163). -/
def step (s : State) : Host.Outcome State Fault Refusal :=
  match s.RUN with
  | .halted => .fault .haltedNoStep
  | .faulted => .fault .faultedNoStep
  | .running =>
    match decode .uop8 [s.fetch] with
    | .ok i => exec i s
    | .error _ => .next (s.takeFault .reservedUop)

/-- The state whose next step runs the instruction of a table word (log entry 7). A micro-operation
is stored in the ROM at `upc`. A frame is not fetched from the ROM: it is the captured frame, and the
word at `upc` is `DEC` (0x80), which decodes it, in a phase without an error. -/
def State.withFetchWord (s : State) (nbits w : Nat) : State :=
  if nbits = 32 then
    { s with
      FRAME := BitVec.ofNat 32 w
      FV := true
      ERR := .none
      RUN := .running
      FLTR := .none
      inp := { s.inp with PROG := Memory.write s.inp.PROG s.upc.toNat 0x80#8 } }
  else
    { s with
      RUN := .running
      FLTR := .none
      inp := { s.inp with PROG := Memory.write s.inp.PROG s.upc.toNat (BitVec.ofNat 8 w) } }

end Sys2Proof.Machine
end

