-- ==== Sys2Proof/Machine/Asm.lean ====
section
/-! DEFINITION. Micro-program assembly (30_encoding.md R88, R89): lines, their words, their text, and
the pseudo-operations with their expansions. Reading a text is not modelled (log entry 19). -/

namespace Sys2Proof.Machine

/-- A line of assembly: an operation or a raw byte, `.byte 0xNN` (R88). -/
inductive AsmLine where
  | op (i : Instr)
  | byte (b : Byte)
deriving DecidableEq, Repr

/-- The words of a line (R88). -/
def asmWords : AsmLine → List Byte
  | .op i => encode i
  | .byte b => [b]

/-- The words of a program, one line after another from address 0 (R88). -/
def assemble : List AsmLine → List Byte
  | [] => []
  | l :: ls => asmWords l ++ assemble ls

/-- `ENABLE c` is `SETR c, 1` (R89). -/
def asmEnable (c : Nat) : List AsmLine := [.op (.setr c true)]
/-- `DISABLE c` is `SETR c, 0` (R89). -/
def asmDisable (c : Nat) : List AsmLine := [.op (.setr c false)]
/-- `MEASURE l` is `WAIT`, `ACQ`, `DEC`, `RPT l` (R89). -/
def asmMeasure (l : Nat) : List AsmLine := [.op .wait, .op .acq, .op .dec, .op (.rpt l)]
/-- `PHASE_A` (R89). -/
def asmPhaseA : List AsmLine := asmDisable 2 ++ asmDisable 4 ++ asmEnable 1 ++ asmMeasure 1
/-- `PHASE_B` (R89). -/
def asmPhaseB : List AsmLine := asmDisable 1 ++ asmEnable 2 ++ asmMeasure 2
/-- `PHASE_C` (R89). -/
def asmPhaseC : List AsmLine := asmDisable 2 ++ asmEnable 4 ++ asmMeasure 4
/-- The canonical program as assembly (R89). -/
def asmCanonical : List AsmLine :=
  asmPhaseA ++ asmPhaseB ++ asmPhaseC ++ [.op (.loop 0), .op .halt]

/-- A hexadecimal digit. -/
def hexDigit (n : Nat) : String :=
  (["0", "1", "2", "3", "4", "5", "6", "7", "8", "9", "A", "B", "C", "D", "E", "F"]).getD n "?"

/-- Two hexadecimal digits. -/
def hexByte (b : Byte) : String := hexDigit (b.toNat / 16) ++ hexDigit (b.toNat % 16)

/-- A frame as eight hexadecimal digits (R88). -/
def frameText (F : FrameWord) : String :=
  "0x" ++ String.join ((bytesOfFrame F).map hexByte)

/-- The text of an operation: the mnemonic in capitals and decimal operands (R88). A frame class has
no assembly text of its own; it is written as its frame. -/
def instrText : Instr → String
  | .rd tc14 b17 cj12 b3 scv scg oc => frameText (packFrame tc14 b17 false cj12 b3 scv scg oc)
  | .fltOc tc14 b17 cj12 b3 scv scg => frameText (packFrame tc14 b17 true cj12 b3 scv scg true)
  | .fltScg tc14 b17 cj12 b3 scv => frameText (packFrame tc14 b17 true cj12 b3 scv true false)
  | .fltScv tc14 b17 cj12 b3 => frameText (packFrame tc14 b17 true cj12 b3 true false false)
  | .fltUnk tc14 b17 cj12 b3 => frameText (packFrame tc14 b17 true cj12 b3 false false false)
  | .setr ch en => "SETR " ++ toString ch ++ ", " ++ (if en then "1" else "0")
  | .wait => "WAIT"
  | .acq => "ACQ"
  | .dec => "DEC"
  | .rpt lbl => "RPT " ++ toString lbl
  | .loop t => "LOOP " ++ toString t
  | .halt => "HALT"

/-- The text of a line (R88). -/
def asmText : AsmLine → String
  | .op i => instrText i
  | .byte b => ".byte 0x" ++ hexByte b

end Sys2Proof.Machine
end

