-- ==== Sys2Proof/Safety.lean ====
section
/-! DEFINITION. What counts as a good run, in the terms the claims use: the end of a run
(42_sequencer.md R163), the state invariants (10_state.md R41), the at-most-one-relay property (R161),
the program duties of 70_reset_and_hazards.md R215, and the invariant of the canonical program. -/

namespace Sys2Proof.Machine

/-- `k` steps, stopping where no step exists: the run of the machine (R150). -/
def run : Nat → State → Result
  | 0, s => .next s
  | k + 1, s =>
    match step s with
    | .next u => run k u
    | .fault r => .fault r
    | .refused r => .refused r

/-- A run has ended exactly when `RUN` is `Halted` (R163). -/
def State.Ended (s : State) : Prop := s.RUN = .halted

/-- The state invariants of R41 (a) to (e), for every `PROG` and every oracle, with the exact meaning
of `RV` (R27) and the canonical form of the ROM (log entry 8). -/
structure State.Inv (s : State) : Prop where
  /-- R41 (a), and R27: `RV = 1` exactly when `DV = 1` and `FS = 0`. -/
  rv : s.RV = true ↔ (s.DV = true ∧ s.FS = .none)
  /-- R41 (b), the frame is still captured. -/
  dvFrame : s.DV = true → s.FV = true
  /-- R41 (b), the registers are the decode of the frame. -/
  dvDecode : s.DV = true →
    s.TC = (decodeTriple s.FRAME).tc ∧ s.CJ = (decodeTriple s.FRAME).cj ∧
      s.FS = (decodeTriple s.FRAME).fs
  /-- R41 (c). -/
  codes : (fsCode s.FS).toNat ≤ 4 ∧ (errCode s.ERR).toNat ≤ 5
  /-- R41 (d). -/
  busError : s.ERR = .busTransferFailure → s.FV = false
  /-- R41 (e). -/
  faultReason : s.RUN = .faulted ↔ s.FLTR ≠ .none
  /-- The ROM's list is in its canonical form. -/
  rom : Memory.wf s.inp.PROG = true

/-- At most one of the three cells is `On` (R36, R161). -/
structure State.AtMostOneOn (s : State) : Prop where
  not12 : ¬ (s.RS1 = .on ∧ s.RS2 = .on)
  not14 : ¬ (s.RS1 = .on ∧ s.RS4 = .on)
  not24 : ¬ (s.RS2 = .on ∧ s.RS4 = .on)

/-- The named premise of 41_relay_resolver.md R138 about the GPIO service: the calls of a redundant
disable answer `Ok`. It is an assumption on the oracle, never a property of the block. -/
def State.PinServiceAnswersOk (s : State) : Prop :=
  (∃ p, s.lookupAnswer = .ok p) ∧ s.pinAnswer 0 = .ok ∧ s.pinAnswer 1 = .ok ∧ s.pinAnswer 2 = .ok

/-! ### Settle before acquire, on a trace (R215) -/

/-- Whether a settle wait stands after the last relay call. -/
def settleAfter (settled : Bool) : Event → Bool
  | .lookupPin _ _ _ => false
  | .initPin _ _ => false
  | .setDirection _ _ _ => false
  | .setValue _ _ _ => false
  | .delay _ => true
  | .transfer _ _ _ => settled
  | .report _ _ => settled

/-- Whether an event is allowed: a transfer is, only with a settle wait after the last relay call. -/
def settleAllows (settled : Bool) : Event → Bool
  | .lookupPin _ _ _ => true
  | .initPin _ _ => true
  | .setDirection _ _ _ => true
  | .setValue _ _ _ => true
  | .delay _ => true
  | .transfer _ _ _ => settled
  | .report _ _ => true

/-- At the end of a trace, whether a settle wait stands after the last relay call. -/
def settledAtEnd (settled : Bool) (tr : List Event) : Bool := tr.foldl settleAfter settled

/-- Every transfer of the trace has a settle wait between it and the last relay call before it. -/
def transfersSettled : Bool → List Event → Bool
  | _, [] => true
  | b, e :: es => settleAllows b e && transfersSettled (settleAfter b e) es

/-! ### The canonical program (R158 to R162) -/

/-- The addresses at which the cell of channel 1, 2 or 4 may be `On` when the next step starts there:
from the step after a phase's enable to the step of the next phase's disable of that channel. -/
def mayBeOn1 (a : Nat) : Bool := decide (3 ≤ a) && decide (a ≤ 7)
/-- As `mayBeOn1`, for channel 2. -/
def mayBeOn2 (a : Nat) : Bool := decide (9 ≤ a) && decide (a ≤ 13)
/-- As `mayBeOn1`, for channel 4: across the loop back to Phase A. -/
def mayBeOn4 (a : Nat) : Bool := decide (a ≤ 1) || (decide (15 ≤ a) && decide (a ≤ 20))
/-- The addresses of the three `ACQ`. -/
def atAcq (a : Nat) : Bool := a == 4 || a == 10 || a == 16
/-- The addresses of the three `DEC`. -/
def atDec (a : Nat) : Bool := a == 5 || a == 11 || a == 17
/-- The addresses of the three `RPT`. -/
def atRpt (a : Nat) : Bool := a == 6 || a == 12 || a == 18
/-- The addresses at which no phase is open: the start of each phase, the `LOOP`, the `HALT`. -/
def phaseStart (a : Nat) : Bool := a == 0 || a == 7 || a == 13 || a == 19 || a == 20

/-- What holds before every step of a machine that runs the canonical program, whatever the oracle
and `STOP` do (R159, R161, R162, R215). -/
structure State.CanonicalInv (s : State) : Prop where
  /-- The ROM holds the default contents. -/
  prog : s.inp.PROG = []
  notFaulted : s.RUN ≠ .faulted
  inProgram : s.upc.toNat ≤ 20
  haltedAt : s.RUN = .halted → s.upc.toNat = 20
  on1 : s.RS1 = .on → mayBeOn1 s.upc.toNat = true
  on2 : s.RS2 = .on → mayBeOn2 s.upc.toNat = true
  on4 : s.RS4 = .on → mayBeOn4 s.upc.toNat = true
  captured : atDec s.upc.toNat = true → s.ERR = .none → s.FV = true
  decoded : atRpt s.upc.toNat = true → s.ERR = .none → s.DV = true
  clean : phaseStart s.upc.toNat = true →
    s.ERR = .none ∧ s.FV = false ∧ s.DV = false ∧ s.RV = false
  settled : atAcq s.upc.toNat = true → s.ERR = .none → settledAtEnd false s.TRACE = true
  transfers : transfersSettled false s.TRACE = true

end Sys2Proof.Machine
end

