-- ==== Sys2Proof/Certificates/Slice0/Obligations.lean ====
section
/-! DEFINITION. The statements for the provers. Each names the rule of spec/ it formalises. Where a
statement has a next state written out with `with`, every field not named is unchanged. -/

open Sys2Proof Sys2Proof.Machine

/-! ### Reset -/

/-- R210: reset, from any state and with any inputs. The four data registers hold no value, and the
operations that would read them fault. R33: reset does not change an input. The MODEL's own choices in
it: the unwritten contents are the same after every reset (log entry 3), `applyReset` keeps the counters
of answers (log entry 16), and `State.reset` has them at 0 (log entry 2). -/
def Obligations.ResetPutsEveryRegisterAtItsResetValue : Prop :=
  (∀ (inp : Inputs) (calls : Calls) (t : State), t = State.resetWith inp calls →
    t.upc = 0#5 ∧ t.RUN = .running ∧ t.FLTR = .none ∧ t.ERR = .none ∧
    t.FV = false ∧ t.DV = false ∧ t.RV = false ∧
    t.relay 1 = some .unknown ∧ t.relay 2 = some .unknown ∧ t.relay 4 = some .unknown ∧
    t.frameValue = none ∧ t.tcValue = none ∧ t.cjValue = none ∧ t.fsValue = none ∧
    t.TRACE = [] ∧ t.inp = inp ∧
    exec .dec t = .next { t with RUN := .faulted, FLTR := .frameNotValid } ∧
    (∀ lbl, exec (.rpt lbl) t = .next { t with RUN := .faulted, FLTR := .nothingToReport })) ∧
  (∀ s : State, s.applyReset = State.resetWith s.inp s.calls) ∧
  State.reset = State.resetWith Inputs.default Calls.zero

/-- R211: the first step after reset fetches `PROG[0]`; with the canonical program it is `SETR 2,0`. -/
def Obligations.FirstStepAfterResetRunsProgZero : Prop :=
  ∀ (inp : Inputs) (calls : Calls),
    (State.resetWith inp calls).fetch = Memory.read inp.PROG 0 ∧
    (inp.PROG = [] →
      step (State.resetWith inp calls) = exec (.setr 2 false) (State.resetWith inp calls))

/-! ### The FrameDecoder -/

/-- R104, R105: the thermocouple word is the integer part plus the fraction, always added, and the
field sign-extended to 16 bits. -/
def Obligations.ThermocoupleWordIsTheSignedSum : Prop :=
  ∀ F : FrameWord,
    (decodeTriple F).tc.toInt = 4 * (F.extractLsb' 20 12).toInt + (F.extractLsb' 18 2).toNat ∧
    tcQ F = (F.extractLsb' 18 14).toInt ∧ (decodeTriple F).tc.toInt = tcQ F ∧
    (decodeTriple F).tc.extractLsb' 0 14 = F.extractLsb' 18 14 ∧
    (decodeTriple F).tc.getLsbD 14 = F.getLsbD 31 ∧
    (decodeTriple F).tc.getLsbD 15 = F.getLsbD 31 ∧
    -8192 ≤ (decodeTriple F).tc.toInt ∧ (decodeTriple F).tc.toInt ≤ 8191

/-- R107 (and the sum of R106): the internal word. -/
def Obligations.InternalWordIsTheSignedSum : Prop :=
  ∀ F : FrameWord,
    (decodeTriple F).cj.toInt = 16 * (F.extractLsb' 8 8).toInt + (F.extractLsb' 4 4).toNat ∧
    cjQ F = (F.extractLsb' 4 12).toInt ∧ (decodeTriple F).cj.toInt = cjQ F ∧
    (decodeTriple F).cj.extractLsb' 0 12 = F.extractLsb' 4 12 ∧
    (decodeTriple F).cj.getLsbD 12 = F.getLsbD 15 ∧ (decodeTriple F).cj.getLsbD 13 = F.getLsbD 15 ∧
    (decodeTriple F).cj.getLsbD 14 = F.getLsbD 15 ∧ (decodeTriple F).cj.getLsbD 15 = F.getLsbD 15 ∧
    -2048 ≤ (decodeTriple F).cj.toInt ∧ (decodeTriple F).cj.toInt ≤ 2047

/-- R78: of the five rows of the table exactly one matches a frame, and it is the frame's class. -/
def Obligations.ExactlyOneFrameClassMatches : Prop :=
  ∀ (F : FrameWord) (c : FrameClass), (F &&& frameMask c = framePattern c) ↔ classOf F = c

/-- R109: the priority encoder, as codes. -/
def Obligations.FaultStatusPriority : Prop :=
  ∀ F : FrameWord,
    (F.getLsbD 16 = false → fsCode (fsOf F) = 0#3) ∧
    (F.getLsbD 16 = true → F.getLsbD 0 = true → fsCode (fsOf F) = 1#3) ∧
    (F.getLsbD 16 = true → F.getLsbD 0 = false → F.getLsbD 1 = true → fsCode (fsOf F) = 2#3) ∧
    (F.getLsbD 16 = true → F.getLsbD 0 = false → F.getLsbD 1 = false → F.getLsbD 2 = true →
      fsCode (fsOf F) = 3#3) ∧
    (F.getLsbD 16 = true → F.getLsbD 0 = false → F.getLsbD 1 = false → F.getLsbD 2 = false →
      fsCode (fsOf F) = 4#3)

/-- R109 against R78 and R110 to R114: the encoder's answer is the class of the frame. -/
def Obligations.FaultStatusIsTheFrameClass : Prop :=
  ∀ F : FrameWord,
    (fsOf F = .none ↔ classOf F = .rd) ∧ (fsOf F = .openCircuit ↔ classOf F = .fltOc) ∧
    (fsOf F = .shortToGround ↔ classOf F = .fltScg) ∧
    (fsOf F = .shortToVcc ↔ classOf F = .fltScv) ∧
    (fsOf F = .unknownFault ↔ classOf F = .fltUnk)

/-- R81: two frames that differ only in bits 17 and 3 have the same class and the same decode. -/
def Obligations.FrameBits17And3AreIgnored : Prop :=
  ∀ F G : FrameWord, (∀ k : Nat, k ≠ 17 → k ≠ 3 → F.getLsbD k = G.getLsbD k) →
    classOf F = classOf G ∧ decodeTriple F = decodeTriple G

/-- R82: with the fault flag clear the three cause bits are ignored. -/
def Obligations.CauseBitsIgnoredWithFlagClear : Prop :=
  (∀ F G : FrameWord, F.getLsbD 16 = false → (∀ k : Nat, 3 ≤ k → F.getLsbD k = G.getLsbD k) →
    classOf F = .rd ∧ classOf G = .rd ∧ decodeTriple F = decodeTriple G) ∧
  decodeTriple 0x07C80F87#32 = decodeTriple 0x07C80F80#32

/-- R83: the inconsistent frame is `UnknownFault`, code 4, and no reading. -/
def Obligations.InconsistentFrameIsUnknownFault : Prop :=
  ∀ F : FrameWord, F.getLsbD 16 = true → F.getLsbD 0 = false → F.getLsbD 1 = false →
    F.getLsbD 2 = false →
    classOf F = .fltUnk ∧ (decodeTriple F).fs = .unknownFault ∧ fsCode (decodeTriple F).fs = 4#3 ∧
    decodeResult F = .error .unknownFault

/-- R115: a reading exactly when the fault status is None, with the two counts; else the status. -/
def Obligations.ReadingOnlyWithoutFault : Prop :=
  ∀ F : FrameWord,
    (fsOf F = .none → decodeResult F =
      .ok { tcQ := (F.extractLsb' 18 14).toInt, cjQ := (F.extractLsb' 4 12).toInt }) ∧
    (fsOf F ≠ .none → decodeResult F = .error (fsOf F))

/-- R117: the fractional components, as non-negative remainders, of a frame of any class; and a frame
with the flag clear is a reading with these counts. -/
def Obligations.FractionalComponents : Prop :=
  ∀ F : FrameWord,
    tcQ F % 4 = (F.extractLsb' 18 2).toNat ∧ cjQ F % 16 = (F.extractLsb' 4 4).toNat ∧
    (tcQ F : ℚ) / 4 - ⌊(tcQ F : ℚ) / 4⌋ = ((F.extractLsb' 18 2).toNat : ℚ) / 4 ∧
    (cjQ F : ℚ) / 16 - ⌊(cjQ F : ℚ) / 16⌋ = ((F.extractLsb' 4 4).toNat : ℚ) / 16 ∧
    (F.getLsbD 16 = false → decodeResult F = .ok { tcQ := tcQ F, cjQ := cjQ F })

/-- R118: what the printed literals compute, and when it is the block's decode. -/
def Obligations.PrintedLiteralsAgainstTheDecode : Prop :=
  (∀ F : FrameWord,
    litTcQ F = 4 * (F.extractLsb' 20 12).toNat + (F.extractLsb' 18 2).toNat ∧
    litTcQ F = (F.extractLsb' 18 14).toNat ∧ litTcQ F ≤ 16383 ∧
    litCjQ F = 16 * (F.extractLsb' 9 7).toNat + (F.extractLsb' 4 5).toNat ∧ litCjQ F ≤ 2063 ∧
    (decodeLiteral F).2.2 = fsOf F ∧
    ((litTcQ F : Int) = tcQ F ↔ F.getLsbD 31 = false) ∧
    (F.getLsbD 31 = true → (litTcQ F : Int) = tcQ F + 16384) ∧
    ((litCjQ F : Int) = cjQ F ↔ F.extractLsb' 9 7 = 0#7) ∧
    cjQ F - litCjQ F =
      16 * (F.extractLsb' 9 7).toNat - 4096 * (if F.getLsbD 15 then 1 else 0)) ∧
  litTcQ 0x07C80F80#32 = 498 ∧ litCjQ 0x07C80F80#32 = 136 ∧ cjQ 0x07C80F80#32 = 248

/-- R116 (d): every count of a field's range is the temperature of some frame, and of one field value
only. -/
def Obligations.TemperatureMapsAreBijections : Prop :=
  (∀ z : Int, -8192 ≤ z → z ≤ 8191 → ∃ F : FrameWord, (decodeTriple F).tc.toInt = z) ∧
  (∀ F G : FrameWord, (decodeTriple F).tc.toInt = (decodeTriple G).tc.toInt →
    F.extractLsb' 18 14 = G.extractLsb' 18 14) ∧
  (∀ z : Int, -2048 ≤ z → z ≤ 2047 → ∃ F : FrameWord, (decodeTriple F).cj.toInt = z) ∧
  (∀ F G : FrameWord, (decodeTriple F).cj.toInt = (decodeTriple G).cj.toInt →
    F.extractLsb' 4 12 = G.extractLsb' 4 12)

/-! ### Encodings -/

/-- Decoding the bytes of a well-formed instruction gives it back: every instruction, every operand. -/
def Obligations.DecodeOfEncodeIsTheInstruction : Prop :=
  ∀ i : Instr, i.wf = true → decode i.format (encode i) = .ok i

/-- The other direction: what a word decodes to is well-formed and encodes to that word. -/
def Obligations.EncodeOfDecodeIsTheWord : Prop :=
  (∀ (w : Byte) (i : Instr), decode .uop8 [w] = .ok i →
    encode i = [w] ∧ i.wf = true ∧ i.format = .uop8) ∧
  (∀ b0 b1 b2 b3 : Byte, ∃ i : Instr, decode .frame32 [b0, b1, b2, b3] = .ok i ∧
    encode i = [b0, b1, b2, b3] ∧ i.wf = true ∧ i.format = .frame32)

/-- R86: the reserved words, their number, and that executing one is the sequencer fault `ReservedUop`,
whether or not `skip` is 1. -/
def Obligations.ReservedWordsFault : Prop :=
  (∀ w : Byte, decodeUop w = .error (.reservedUop w) ↔
    (w.extractLsb' 5 3 = 0b000#3 ∨
     (w.extractLsb' 5 3 = 0b001#3 ∧ w.getLsbD 0 = true) ∨
     ((w.extractLsb' 5 3 = 0b010#3 ∨ w.extractLsb' 5 3 = 0b011#3 ∨ w.extractLsb' 5 3 = 0b100#3 ∨
        w.extractLsb' 5 3 = 0b111#3) ∧ w.extractLsb' 0 5 ≠ 0#5) ∨
     (w.extractLsb' 5 3 = 0b101#3 ∧ w.extractLsb' 0 2 ≠ 0#2))) ∧
  ((List.range 256).filter (fun n => (decodeUop (BitVec.ofNat 8 n)).toOption.isNone)).length = 196 ∧
  (∀ s : State, s.RUN = .running → decodeUop s.fetch = .error (.reservedUop s.fetch) →
    step s = .next { s with RUN := .faulted, FLTR := .reservedUop })

/-- R80: the words of the canonical program and the words that resolve to an error when executed. -/
def Obligations.ReferenceWordsDecode : Prop :=
  decodeUop 0x24#8 = .ok (.setr 1 false) ∧ decodeUop 0x26#8 = .ok (.setr 1 true) ∧
  decodeUop 0x28#8 = .ok (.setr 2 false) ∧ decodeUop 0x2A#8 = .ok (.setr 2 true) ∧
  decodeUop 0x30#8 = .ok (.setr 4 false) ∧ decodeUop 0x32#8 = .ok (.setr 4 true) ∧
  decodeUop 0x40#8 = .ok .wait ∧ decodeUop 0x60#8 = .ok .acq ∧ decodeUop 0x80#8 = .ok .dec ∧
  decodeUop 0xA4#8 = .ok (.rpt 1) ∧ decodeUop 0xA8#8 = .ok (.rpt 2) ∧
  decodeUop 0xB0#8 = .ok (.rpt 4) ∧ decodeUop 0xC0#8 = .ok (.loop 0) ∧ decodeUop 0xE0#8 = .ok .halt ∧
  decodeUop 0x2C#8 = .ok (.setr 3 false) ∧ decodeUop 0x2E#8 = .ok (.setr 3 true) ∧
  decodeUop 0x20#8 = .ok (.setr 0 false) ∧ decodeUop 0x22#8 = .ok (.setr 0 true) ∧
  decodeUop 0x34#8 = .ok (.setr 5 false) ∧ decodeUop 0x36#8 = .ok (.setr 5 true) ∧
  decodeUop 0x38#8 = .ok (.setr 6 false) ∧ decodeUop 0x3A#8 = .ok (.setr 6 true) ∧
  decodeUop 0x3C#8 = .ok (.setr 7 false) ∧ decodeUop 0x3E#8 = .ok (.setr 7 true) ∧
  roleOf 3 = .error .reservedChannel ∧ ∀ ch ∈ [0, 5, 6, 7], roleOf ch = .error .invalidChannel

/-- R89, R158: the canonical program as assembly is the ROM's default contents. -/
def Obligations.CanonicalAssemblyIsTheDefaultRom : Prop :=
  asmCanonical = asmPhaseA ++ asmPhaseB ++ asmPhaseC ++ [.op (.loop 0), .op .halt] ∧
  assemble asmCanonical ++ List.replicate 11 0x00#8 = (List.range 32).map (Memory.read []) ∧
  (List.range 32).map (Memory.read []) =
    [0x28#8, 0x30#8, 0x26#8, 0x40#8, 0x60#8, 0x80#8, 0xA4#8, 0x24#8, 0x2A#8, 0x40#8, 0x60#8, 0x80#8,
     0xA8#8, 0x28#8, 0x32#8, 0x40#8, 0x60#8, 0x80#8, 0xB0#8, 0xC0#8, 0xE0#8] ++
    [0#8, 0#8, 0#8, 0#8, 0#8, 0#8, 0#8, 0#8, 0#8, 0#8, 0#8]

/-- The MODEL's own placing of a table word (log entry 7): the very next step runs the instruction that
the word is. -/
def Obligations.PlacedTableWordIsRunNext : Prop :=
  ∀ (s : State) (w : Nat) (i : Instr), Memory.wf s.inp.PROG = true →
    (decodeTableWord 8 w = some i →
      step (s.withFetchWord 8 w) = exec i (s.withFetchWord 8 w)) ∧
    (decodeTableWord 32 w = some i →
      step (s.withFetchWord 32 w) = exec i (s.withFetchWord 32 w))

/-! ### The step -/

/-- R150: the step while `Running` runs the decoded micro-operation or is the fault `ReservedUop`; in
any other run state there is no next state. -/
def Obligations.StepRunsTheDecodedMicroOperation : Prop :=
  ∀ s : State,
    (∀ i : Instr, s.RUN = .running → decode .uop8 [s.romRead s.upc] = .ok i → step s = exec i s) ∧
    (∀ e : DecodeError, s.RUN = .running → decode .uop8 [s.romRead s.upc] = .error e →
      step s = .next { s with RUN := .faulted, FLTR := .reservedUop }) ∧
    (s.RUN ≠ .running → ∀ t : State, step s ≠ .next t)

/-- R154 with R110 to R114: a `DEC` that decodes runs the captured frame's own class. -/
def Obligations.DecRunsTheCapturedFrame : Prop :=
  ∀ s : State, s.ERR = .none → s.FV = true → exec .dec s = exec (decodeFrame s.FRAME) s

/-! ### What each instruction does -/

/-- R110 to R114 as `DEC` executes them (R154; log entry 6). -/
def Obligations.FrameClassResults : Prop :=
  ∀ (tc14 : BitVec 14) (b17 : Bool) (cj12 : BitVec 12) (b3 scv scg oc : Bool) (s : State),
    exec (.rd tc14 b17 cj12 b3 scv scg oc) s = .next { s with
      TC := tc14.signExtend 16, CJ := cj12.signExtend 16, FS := .none, DV := true, RV := true,
      upc := s.upc + 1#5 } ∧
    exec (.fltOc tc14 b17 cj12 b3 scv scg) s = .next { s with
      TC := tc14.signExtend 16, CJ := cj12.signExtend 16, FS := .openCircuit, DV := true, RV := false,
      upc := s.upc + 1#5 } ∧
    exec (.fltScg tc14 b17 cj12 b3 scv) s = .next { s with
      TC := tc14.signExtend 16, CJ := cj12.signExtend 16, FS := .shortToGround, DV := true, RV := false,
      upc := s.upc + 1#5 } ∧
    exec (.fltScv tc14 b17 cj12 b3) s = .next { s with
      TC := tc14.signExtend 16, CJ := cj12.signExtend 16, FS := .shortToVcc, DV := true, RV := false,
      upc := s.upc + 1#5 } ∧
    exec (.fltUnk tc14 b17 cj12 b3) s = .next { s with
      TC := tc14.signExtend 16, CJ := cj12.signExtend 16, FS := .unknownFault, DV := true, RV := false,
      upc := s.upc + 1#5 }

/-- R152: the word of `WAIT`, and the settle wait, skipped or not. -/
def Obligations.WaitResult : Prop :=
  (∀ w : Byte, decodeUop w = .ok .wait ↔ w = 0b01000000#8) ∧
  ∀ s : State,
    (s.ERR ≠ .none → exec .wait s = .next { s with upc := s.upc + 1#5 }) ∧
    (s.ERR = .none → exec .wait s = .next { s with
      upc := s.upc + 1#5, TRACE := s.TRACE ++ [.delay s.inp.SETTLE] })

/-- R153: the word of `ACQ`, its one transfer, and what each answer leaves. The MODEL's own choices in
it: `calls` is its own counter (log entry 2), the event keeps the bytes of an answer of a wrong length
(log entry 16), and the raw `FRAME` keeps its bits on a failure, where R153 says that it holds no value
(log entry 4). -/
def Obligations.AcqResult : Prop :=
  (∀ w : Byte, decodeUop w = .ok .acq ↔ w = 0b01100000#8) ∧
  ∀ s : State,
    (s.ERR ≠ .none → exec .acq s = .next { s with upc := s.upc + 1#5 }) ∧
    (∀ b0 b1 b2 b3 : Byte, s.ERR = .none → s.busAnswer = .ok [b0, b1, b2, b3] →
      exec .acq s = .next { s with
        FRAME := b0 ++ b1 ++ b2 ++ b3, FV := true, DV := false, RV := false, upc := s.upc + 1#5,
        calls := { s.calls with transfers := s.calls.transfers + 1 },
        TRACE := s.TRACE ++ [.transfer none 4 (.ok [b0, b1, b2, b3])] }) ∧
    (∀ bytes : List Byte, s.ERR = .none → s.busAnswer = .ok bytes → bytes.length ≠ 4 →
      exec .acq s = .next { s with
        FV := false, DV := false, RV := false, ERR := .busTransferFailure, upc := s.upc + 1#5,
        calls := { s.calls with transfers := s.calls.transfers + 1 },
        TRACE := s.TRACE ++ [.transfer none 4 (.ok bytes)] }) ∧
    (s.ERR = .none → s.busAnswer = .err →
      exec .acq s = .next { s with
        FV := false, DV := false, RV := false, ERR := .busTransferFailure, upc := s.upc + 1#5,
        calls := { s.calls with transfers := s.calls.transfers + 1 },
        TRACE := s.TRACE ++ [.transfer none 4 .err] })

/-- R154: the word of `DEC`; `DEC` skipped, with no captured frame, and decoding. -/
def Obligations.DecResult : Prop :=
  (∀ w : Byte, decodeUop w = .ok .dec ↔ w = 0b10000000#8) ∧
  ∀ s : State,
    (s.ERR ≠ .none → exec .dec s = .next { s with upc := s.upc + 1#5 }) ∧
    (s.ERR = .none → s.FV = false →
      exec .dec s = .next { s with RUN := .faulted, FLTR := .frameNotValid }) ∧
    (s.ERR = .none → s.FV = true →
      exec .dec s = .next { s with
        TC := (decodeTriple s.FRAME).tc, CJ := (decodeTriple s.FRAME).cj,
        FS := (decodeTriple s.FRAME).fs, DV := true,
        RV := decide ((decodeTriple s.FRAME).fs = .none), upc := s.upc + 1#5 })

/-- R155: the word of `RPT`, the record it emits, what it clears, and the fault when there is nothing to
report; the fields of the packed form; that in a state with the invariants the codes are in range; and
that after `RPT` a `DEC` before the next successful `ACQ` faults: `RPT` leaves `FV` 0, no step but that
of an `ACQ` whose transfer answers four bytes sets it, and while it is 0 a `DEC` without an error
faults. -/
def Obligations.RptResult : Prop :=
  (∀ (w : Byte) (lbl : Nat), lbl < 8 →
    (decodeUop w = .ok (.rpt lbl) ↔ w = 0b101#3 ++ BitVec.ofNat 3 lbl ++ 0b00#2)) ∧
  (∀ (lbl : Nat) (s : State),
    (s.ERR ≠ .none → exec (.rpt lbl) s = .next { s with
      ERR := .none, FV := false, DV := false, RV := false, upc := s.upc + 1#5,
      TRACE := s.TRACE ++ [.report (BitVec.ofNat 3 lbl) (.error s.ERR)] }) ∧
    (s.ERR = .none → s.DV = true → s.RV = true → exec (.rpt lbl) s = .next { s with
      ERR := .none, FV := false, DV := false, RV := false, upc := s.upc + 1#5,
      TRACE := s.TRACE ++ [.report (BitVec.ofNat 3 lbl) (.reading s.TC s.CJ)] }) ∧
    (s.ERR = .none → s.DV = true → s.RV = false → exec (.rpt lbl) s = .next { s with
      ERR := .none, FV := false, DV := false, RV := false, upc := s.upc + 1#5,
      TRACE := s.TRACE ++ [.report (BitVec.ofNat 3 lbl) (.sensorFault s.FS)] }) ∧
    (s.ERR = .none → s.DV = false →
      exec (.rpt lbl) s = .next { s with RUN := .faulted, FLTR := .nothingToReport })) ∧
  (∀ (lbl : BitVec 3) (tc cj : Count),
    packReport lbl (.reading tc cj) = lbl ++ 0#2 ++ 0#3 ++ tc ++ cj) ∧
  (∀ (lbl : BitVec 3) (fs : FaultStatus),
    packReport lbl (.sensorFault fs) = lbl ++ 1#2 ++ fsCode fs ++ 0#16 ++ 0#16) ∧
  (∀ (lbl : BitVec 3) (e : ErrCode),
    packReport lbl (.error e) = lbl ++ 2#2 ++ errCode e ++ 0#16 ++ 0#16) ∧
  (∀ (s : State) (fs : FaultStatus), s.Inv → s.reportRecord = some (.sensorFault fs) →
    1 ≤ (fsCode fs).toNat ∧ (fsCode fs).toNat ≤ 4) ∧
  (∀ (s : State) (e : ErrCode), s.Inv → s.reportRecord = some (.error e) →
    1 ≤ (errCode e).toNat ∧ (errCode e).toNat ≤ 5) ∧
  (∀ (lbl : Nat) (s t : State), exec (.rpt lbl) s = .next t → t.RUN = s.RUN → s.RUN = .running →
    t.FV = false ∧ exec .dec t = .next { t with RUN := .faulted, FLTR := .frameNotValid }) ∧
  (∀ s t : State, step s = .next t → s.FV = false → t.FV = true →
    decodeUop s.fetch = .ok .acq ∧ s.ERR = .none ∧
      ∃ b0 b1 b2 b3 : Byte, s.busAnswer = .ok [b0, b1, b2, b3]) ∧
  (∀ s : State, s.FV = false → s.ERR = .none →
    exec .dec s = .next { s with RUN := .faulted, FLTR := .frameNotValid })

/-- R156: the word of `LOOP`; `STOP` is sampled once, in this step; `ERR` neither matters nor changes.
The MODEL's own choices in it: `calls` is its own counter (log entry 2), and a target of 32 or more,
which no word has, is taken modulo 32 (log entry 14). -/
def Obligations.LoopResult : Prop :=
  (∀ (w : Byte) (t : Nat), t < 32 →
    (decodeUop w = .ok (.loop t) ↔ w = 0b110#3 ++ BitVec.ofNat 5 t)) ∧
  ∀ (t : Nat) (s : State),
    (s.stopLevel = false → exec (.loop t) s = .next { s with
      upc := BitVec.ofNat 5 t, calls := { s.calls with stops := s.calls.stops + 1 } }) ∧
    (s.stopLevel = true → exec (.loop t) s = .next { s with
      upc := s.upc + 1#5, calls := { s.calls with stops := s.calls.stops + 1 } })

/-- R157: the word of `HALT`; it writes `RUN`, keeps `pc`, and after it there is no step. -/
def Obligations.HaltEndsTheRun : Prop :=
  (∀ w : Byte, decodeUop w = .ok .halt ↔ w = 0b11100000#8) ∧
  ∀ s : State, exec .halt s = .next { s with RUN := .halted } ∧
    ∀ t u : State, exec .halt s = .next t → step t ≠ .next u

/-- R136, success: the word of `SETR`, the four calls in order, and the cell of the channel. `calls` is
the model's own counter. -/
def Obligations.SetrSetsTheRelay : Prop :=
  (∀ (w : Byte) (ch : Nat) (en : Bool), ch < 8 →
    (decodeUop w = .ok (.setr ch en) ↔
      w = 0b001#3 ++ BitVec.ofNat 3 ch ++ BitVec.ofBool en ++ 0b0#1)) ∧
  ∀ (ch : Nat) (en : Bool) (role : Role) (p : PinId) (s : State),
    roleOf ch = .ok role → (s.ERR = .none ∨ en = false) → s.lookupAnswer = .ok p →
    s.pinAnswer 0 = .ok → s.pinAnswer 1 = .ok → s.pinAnswer 2 = .ok →
    exec (.setr ch en) s = .next { s.setRelay ch (if en then .on else .off) with
      upc := s.upc + 1#5,
      calls := { s.calls with lookups := s.calls.lookups + 1, pins := s.calls.pins + 3 },
      TRACE := s.TRACE ++ [.lookupPin s.inp.SOCKET role (.ok p), .initPin p .ok,
        .setDirection p .output .ok, .setValue p en .ok] }

/-- R136, R187, R188: the first failing call ends the operation; the cell is `Unknown`, the error is
kept if it is the first of the phase. -/
def Obligations.SetrStopsAtTheFirstFailingCall : Prop :=
  ∀ (ch : Nat) (en : Bool) (role : Role) (s : State),
    roleOf ch = .ok role → (s.ERR = .none ∨ en = false) →
    (s.lookupAnswer = .err →
      exec (.setr ch en) s = .next { s.setRelay ch .unknown with
        ERR := if s.ERR = .none then .pinLookupFailed else s.ERR, upc := s.upc + 1#5,
        calls := { s.calls with lookups := s.calls.lookups + 1 },
        TRACE := s.TRACE ++ [.lookupPin s.inp.SOCKET role .err] }) ∧
    (∀ p : PinId, s.lookupAnswer = .ok p → s.pinAnswer 0 = .err →
      exec (.setr ch en) s = .next { s.setRelay ch .unknown with
        ERR := if s.ERR = .none then .gpioFailure else s.ERR, upc := s.upc + 1#5,
        calls := { s.calls with lookups := s.calls.lookups + 1, pins := s.calls.pins + 1 },
        TRACE := s.TRACE ++ [.lookupPin s.inp.SOCKET role (.ok p), .initPin p .err] }) ∧
    (∀ p : PinId, s.lookupAnswer = .ok p → s.pinAnswer 0 = .ok → s.pinAnswer 1 = .err →
      exec (.setr ch en) s = .next { s.setRelay ch .unknown with
        ERR := if s.ERR = .none then .gpioFailure else s.ERR, upc := s.upc + 1#5,
        calls := { s.calls with lookups := s.calls.lookups + 1, pins := s.calls.pins + 2 },
        TRACE := s.TRACE ++ [.lookupPin s.inp.SOCKET role (.ok p), .initPin p .ok,
          .setDirection p .output .err] }) ∧
    (∀ p : PinId, s.lookupAnswer = .ok p → s.pinAnswer 0 = .ok → s.pinAnswer 1 = .ok →
      s.pinAnswer 2 = .err →
      exec (.setr ch en) s = .next { s.setRelay ch .unknown with
        ERR := if s.ERR = .none then .gpioFailure else s.ERR, upc := s.upc + 1#5,
        calls := { s.calls with lookups := s.calls.lookups + 1, pins := s.calls.pins + 3 },
        TRACE := s.TRACE ++ [.lookupPin s.inp.SOCKET role (.ok p), .initPin p .ok,
          .setDirection p .output .ok, .setValue p en .err] })

/-- R131: the channel-to-role map, for every value of a channel operand. -/
def Obligations.ChannelRoles : Prop :=
  roleOf 1 = .ok .pwm ∧ roleOf 2 = .ok .reset ∧ roleOf 3 = .error .reservedChannel ∧
  roleOf 4 = .ok .analog ∧ roleOf 0 = .error .invalidChannel ∧ roleOf 5 = .error .invalidChannel ∧
  roleOf 6 = .error .invalidChannel ∧ roleOf 7 = .error .invalidChannel ∧
  roleCode .pwm = 1#2 ∧ roleCode .reset = 2#2 ∧ roleCode .analog = 3#2

/-- R185: `SETR 3, en` makes no service call and touches no relay; under `skip` the enable is
suppressed and the error of the disable is dropped. -/
def Obligations.ReservedChannelIsNeverDriven : Prop :=
  ∀ (en : Bool) (s : State),
    (s.ERR = .none → exec (.setr 3 en) s =
      .next { s with ERR := .reservedChannel, upc := s.upc + 1#5 }) ∧
    (s.ERR ≠ .none → exec (.setr 3 en) s = .next { s with upc := s.upc + 1#5 })

/-- R186: an out-of-range channel makes no service call and touches no relay. -/
def Obligations.OutOfRangeChannelIsAnError : Prop :=
  ∀ (ch : Nat) (en : Bool) (s : State), ch = 0 ∨ ch = 5 ∨ ch = 6 ∨ ch = 7 →
    (s.ERR = .none → exec (.setr ch en) s =
      .next { s with ERR := .invalidChannel, upc := s.upc + 1#5 }) ∧
    (s.ERR ≠ .none → exec (.setr ch en) s = .next { s with upc := s.upc + 1#5 })

/-- R137: the shadow relay state under `SETR`, in full. -/
def Obligations.ShadowRelayStateUnderSetr : Prop :=
  ∀ (ch : Nat) (en : Bool) (s t : State), exec (.setr ch en) s = .next t →
    (∀ c : Nat, c ≠ ch → t.relay c = s.relay c) ∧
    (s.ERR ≠ .none → en = true → t.relay ch = s.relay ch) ∧
    (∀ e : ResolveError, roleOf ch = .error e → t.relay ch = s.relay ch) ∧
    (∀ role : Role, roleOf ch = .ok role → (s.ERR = .none ∨ en = false) →
      ((s.lookupAnswer ≠ .err ∧ s.pinAnswer 0 = .ok ∧ s.pinAnswer 1 = .ok ∧ s.pinAnswer 2 = .ok) →
        t.relay ch = some (if en then .on else .off)) ∧
      (¬ (s.lookupAnswer ≠ .err ∧ s.pinAnswer 0 = .ok ∧ s.pinAnswer 1 = .ok ∧ s.pinAnswer 2 = .ok) →
        t.relay ch = some .unknown))

/-- R138: a redundant `SETR` makes the same four calls as any other and, if they answer `Ok`, succeeds
and leaves the cell as it was. A redundant disable does so under `skip` too. -/
def Obligations.RedundantSetrSucceeds : Prop :=
  ∀ (ch : Nat) (en : Bool) (s : State), s.PinServiceAnswersOk → (s.ERR = .none ∨ en = false) →
    s.relay ch = some (if en then .on else .off) →
    ∃ (t : State) (role : Role) (p : PinId), exec (.setr ch en) s = .next t ∧
      roleOf ch = .ok role ∧ t.relay ch = s.relay ch ∧ t.ERR = s.ERR ∧ t.upc = s.upc + 1#5 ∧
      t.TRACE = s.TRACE ++ [.lookupPin s.inp.SOCKET role (.ok p), .initPin p .ok,
        .setDirection p .output .ok, .setValue p en .ok]

/-- R28: `skip` is 1 exactly when the code of `ERR` is not 0, and while it is, an enable, `WAIT`, `ACQ`
and `DEC` do nothing but advance `pc`. The codes are those of R32 and R181. -/
def Obligations.SkippedOperationsOnlyAdvance : Prop :=
  ∀ s : State, (s.skip = true ↔ errCode s.ERR ≠ 0#3) ∧
    (s.skip = true → ∀ i : Instr,
      (∃ ch, i = .setr ch true) ∨ i = .wait ∨ i = .acq ∨ i = .dec →
      exec i s = .next { s with upc := s.upc + 1#5 }) ∧
    (s.ERR = .none ↔ errCode s.ERR = 0#3) ∧ (s.ERR = .busTransferFailure ↔ errCode s.ERR = 1#3) ∧
    (s.ERR = .reservedChannel ↔ errCode s.ERR = 2#3) ∧
    (s.ERR = .invalidChannel ↔ errCode s.ERR = 3#3) ∧
    (s.ERR = .pinLookupFailed ↔ errCode s.ERR = 4#3) ∧ (s.ERR = .gpioFailure ↔ errCode s.ERR = 5#3)

/-! ### Whole-machine rules -/

/-- R32, R183: the first error of a phase stays until `RPT`. -/
def Obligations.FirstErrorStaysUntilReport : Prop :=
  ∀ (i : Instr) (s t : State), exec i s = .next t →
    (s.ERR ≠ .none → (∀ lbl, i ≠ .rpt lbl) → t.ERR = s.ERR) ∧
    (∀ lbl, i = .rpt lbl → t.RUN = s.RUN → t.ERR = .none)

/-- R150, R166: every instruction ends in a next state, in every state. -/
def Obligations.EveryInstructionEndsInANextState : Prop :=
  ∀ (i : Instr) (s : State), ∃ t : State, exec i s = .next t

/-- The frame of every instruction (R22 to R25, R27, R31 to R36, R40, R53, R61): a register changes only
in an instruction that the spec names as its writer, the inputs and the ROM never change, and `TRACE`
only grows. -/
def Obligations.RegistersChangeOnlyInTheirWriters : Prop :=
  ∀ (i : Instr) (s t : State), exec i s = .next t →
    (i ≠ .acq → t.FRAME = s.FRAME) ∧
    (i ≠ .dec → i.format = .uop8 → t.TC = s.TC ∧ t.CJ = s.CJ ∧ t.FS = s.FS) ∧
    (i ≠ .acq → (∀ lbl, i ≠ .rpt lbl) → t.FV = s.FV) ∧
    (i ≠ .acq → i ≠ .dec → (∀ lbl, i ≠ .rpt lbl) → i.format = .uop8 → t.DV = s.DV ∧ t.RV = s.RV) ∧
    (i ≠ .acq → (∀ ch en, i ≠ .setr ch en) → (∀ lbl, i ≠ .rpt lbl) → t.ERR = s.ERR) ∧
    (i ≠ .halt → i ≠ .dec → (∀ lbl, i ≠ .rpt lbl) → t.RUN = s.RUN) ∧
    (i ≠ .dec → (∀ lbl, i ≠ .rpt lbl) → t.FLTR = s.FLTR) ∧
    ((∀ ch en, i ≠ .setr ch en) → t.RS1 = s.RS1 ∧ t.RS2 = s.RS2 ∧ t.RS4 = s.RS4) ∧
    t.inp = s.inp ∧ (∀ a, t.romRead a = s.romRead a) ∧
    (∃ events, t.TRACE = s.TRACE ++ events) ∧
    (i = .dec ∨ i = .halt ∨ (∃ a, i = .loop a) ∨ i.format = .frame32 → t.TRACE = s.TRACE)

/-- R25: `upc` holds the address of the word the next step fetches, 0 after reset; a fault, that of a
reserved word included, and `HALT` leave it, `LOOP` taken sets it, every other operation adds 1 modulo
32. -/
def Obligations.WhereTheProgramCounterGoes : Prop :=
  (∀ s : State, s.fetch = Memory.read s.inp.PROG s.upc.toNat) ∧
  (∀ (inp : Inputs) (calls : Calls), (State.resetWith inp calls).upc = 0#5) ∧
  (∀ s t : State, step s = .next t →
    (t.RUN ≠ .running → t.upc = s.upc) ∧
    (∀ a, decodeUop s.fetch = .ok (.loop a) → s.stopLevel = false → t.upc = BitVec.ofNat 5 a) ∧
    (t.RUN = .running → (∀ a, decodeUop s.fetch = .ok (.loop a) → s.stopLevel = true) →
      t.upc.toNat = (s.upc.toNat + 1) % 32)) ∧
  ∀ (i : Instr) (s t : State), s.RUN = .running → exec i s = .next t →
    (t.RUN = .faulted → t.upc = s.upc) ∧
    (i = .halt → t.upc = s.upc) ∧
    (∀ a, i = .loop a → s.stopLevel = false → t.upc = BitVec.ofNat 5 a) ∧
    (∀ a, i = .loop a → s.stopLevel = true → t.upc.toNat = (s.upc.toNat + 1) % 32) ∧
    (i ≠ .halt → (∀ a, i ≠ .loop a) → t.RUN ≠ .faulted → t.upc.toNat = (s.upc.toNat + 1) % 32)

/-- R194: the three causes of a sequencer fault, its entry, and that nothing else faults. -/
def Obligations.SequencerFaultsHaveThreeCauses : Prop :=
  ∀ s t : State, step s = .next t →
    (t.RUN = .faulted ↔
      (decodeUop s.fetch = .error (.reservedUop s.fetch) ∨
       (decodeUop s.fetch = .ok .dec ∧ s.ERR = .none ∧ s.FV = false) ∨
       (∃ lbl, decodeUop s.fetch = .ok (.rpt lbl) ∧ s.ERR = .none ∧ s.DV = false))) ∧
    (t.RUN = .faulted →
      t = { s with RUN := .faulted, FLTR := t.FLTR } ∧ (∀ u : State, step t ≠ .next u) ∧
      (faultCode t.FLTR = 1#2 ↔ decodeUop s.fetch = .error (.reservedUop s.fetch)) ∧
      (faultCode t.FLTR = 2#2 ↔ decodeUop s.fetch = .ok .dec) ∧
      (faultCode t.FLTR = 3#2 ↔ ∃ lbl, decodeUop s.fetch = .ok (.rpt lbl)))

/-- R34, R163, R196: a step starts in `Running`, ends in `Halted` exactly by a `HALT`, and neither
`Halted` nor `Faulted` has a step; reset leads back to `Running`. -/
def Obligations.RunStateTransitions : Prop :=
  (∀ s t : State, step s = .next t →
    s.RUN = .running ∧ (t.RUN = .halted ↔ decodeUop s.fetch = .ok .halt)) ∧
  (∀ s : State, s.RUN = .halted → step s = .fault .haltedNoStep) ∧
  (∀ s : State, s.RUN = .faulted → step s = .fault .faultedNoStep) ∧
  (∀ s : State, s.applyReset.RUN = .running)

/-- R54: the view `RXBUF` of a frame captured from four bytes. -/
def Obligations.ReceiveBufferIsBigEndian : Prop :=
  ∀ (b0 b1 b2 b3 : Byte) (s t : State), s.ERR = .none → s.busAnswer = .ok [b0, b1, b2, b3] →
    exec .acq s = .next t →
    t.rxByte 0#2 = b0 ∧ t.rxByte 1#2 = b1 ∧ t.rxByte 2#2 = b2 ∧ t.rxByte 3#2 = b3 ∧
    t.FRAME.extractLsb' 24 8 = b0 ∧ t.FRAME.extractLsb' 16 8 = b1 ∧
    t.FRAME.extractLsb' 8 8 = b2 ∧ t.FRAME.extractLsb' 0 8 = b3 ∧
    hi16 t.FRAME = b0 ++ b1 ∧ hi16b t.FRAME = b2 ++ b3

/-! ### Invariants -/

/-- Every step keeps the invariants of R41, from every state that has them. -/
def Obligations.EveryStepKeepsTheStateInvariants : Prop :=
  ∀ s t : State, s.Inv → step s = .next t → t.Inv

/-- Reset has the invariants of R41, whatever the ROM holds. -/
def Obligations.ResetHasTheStateInvariants : Prop :=
  (∀ (inp : Inputs) (calls : Calls), Memory.wf inp.PROG = true → (State.resetWith inp calls).Inv) ∧
  State.reset.Inv

/-- R41: in every state reachable from reset, for every `PROG` and every oracle. That the ROM's list has
and keeps its canonical form is the MODEL's own clause (log entry 8). -/
def Obligations.ReachableStatesHaveTheStateInvariants : Prop :=
  ∀ (inp : Inputs) (calls : Calls) (k : Nat) (t : State), Memory.wf inp.PROG = true →
    run k (State.resetWith inp calls) = .next t → t.Inv

/-- R115, R155: in a state with the invariants, a reported reading is the decode of a frame without a
fault. -/
def Obligations.ReportedReadingIsTheDecodeOfTheFrame : Prop :=
  ∀ (lbl : Nat) (l : BitVec 3) (tc cj : Count) (s t : State), s.Inv →
    exec (.rpt lbl) s = .next t → t.TRACE = s.TRACE ++ [.report l (.reading tc cj)] →
    s.ERR = .none ∧ fsOf s.FRAME = .none ∧
    decodeResult s.FRAME = .ok { tcQ := tc.toInt, cjQ := cj.toInt }

/-- R155, R189: in a state with the invariants, a reported sensor fault has a code from 1 to 4 and a
reported error a code from 1 to 5. -/
def Obligations.ReportedCodesAreInRange : Prop :=
  ∀ (lbl : Nat) (l : BitVec 3) (s t : State), s.Inv → exec (.rpt lbl) s = .next t →
    (∀ fs : FaultStatus, t.TRACE = s.TRACE ++ [.report l (.sensorFault fs)] →
      1 ≤ (fsCode fs).toNat ∧ (fsCode fs).toNat ≤ 4 ∧ fs = fsOf s.FRAME) ∧
    (∀ e : ErrCode, t.TRACE = s.TRACE ++ [.report l (.error e)] →
      1 ≤ (errCode e).toNat ∧ (errCode e).toNat ≤ 5 ∧ e = s.ERR)

/-- Every step of a machine whose ROM holds the default contents keeps `CanonicalInv` (R159, R161, R162,
R215), from every state that has it. -/
def Obligations.EveryStepKeepsTheCanonicalInvariant : Prop :=
  ∀ s t : State, s.CanonicalInv → step s = .next t → t.CanonicalInv

/-- Reset with the default ROM has `CanonicalInv`. -/
def Obligations.ResetHasTheCanonicalInvariant : Prop :=
  ∀ (inp : Inputs) (calls : Calls), inp.PROG = [] → (State.resetWith inp calls).CanonicalInv

/-- R161: with the default ROM, from reset, for every oracle and every `STOP`, never two cells `On`. -/
def Obligations.NeverTwoRelaysOn : Prop :=
  ∀ (inp : Inputs) (calls : Calls) (k : Nat) (t : State), inp.PROG = [] →
    run k (State.resetWith inp calls) = .next t → t.AtMostOneOn

/-- R162: with the default ROM, from reset, for every oracle and every `STOP`, every step ends in a next
state that is not `Faulted` until the run has ended in `Halted`, after which the MODEL's step answers
`haltedNoStep` (log entry 5). -/
def Obligations.DefaultRomNeverFaults : Prop :=
  ∀ (inp : Inputs) (calls : Calls) (k : Nat), inp.PROG = [] →
    (∃ t : State, run k (State.resetWith inp calls) = .next t ∧ t.RUN ≠ .faulted) ∨
    run k (State.resetWith inp calls) = .fault .haltedNoStep

/-- R215: with the default ROM, from reset, for every oracle, every transfer comes after a settle wait
that is later than the last relay call before it. -/
def Obligations.DefaultRomSettlesBeforeEveryTransfer : Prop :=
  ∀ (inp : Inputs) (calls : Calls) (k : Nat) (t : State), inp.PROG = [] →
    run k (State.resetWith inp calls) = .next t → transfersSettled false t.TRACE = true

/-! ### The host -/

/-- The codes that the host reads (R32, R34, R35, R36), for each register of R199's list: that it is this
list is the MODEL's choice (log entry 20). -/
def Obligations.HostReadsTheStatusCodes : Prop :=
  ∀ s : State,
    s.hostStatus.upc = s.upc ∧
    (s.hostStatus.RUN = 0#2 ↔ s.RUN = .running) ∧ (s.hostStatus.RUN = 1#2 ↔ s.RUN = .halted) ∧
    (s.hostStatus.RUN = 2#2 ↔ s.RUN = .faulted) ∧
    (s.hostStatus.FLTR = 0#2 ↔ s.FLTR = .none) ∧ (s.hostStatus.FLTR = 1#2 ↔ s.FLTR = .reservedUop) ∧
    (s.hostStatus.FLTR = 2#2 ↔ s.FLTR = .frameNotValid) ∧
    (s.hostStatus.FLTR = 3#2 ↔ s.FLTR = .nothingToReport) ∧
    (s.hostStatus.ERR = 0#3 ↔ s.ERR = .none) ∧ (s.hostStatus.ERR = 1#3 ↔ s.ERR = .busTransferFailure) ∧
    (s.hostStatus.ERR = 2#3 ↔ s.ERR = .reservedChannel) ∧
    (s.hostStatus.ERR = 3#3 ↔ s.ERR = .invalidChannel) ∧
    (s.hostStatus.ERR = 4#3 ↔ s.ERR = .pinLookupFailed) ∧
    (s.hostStatus.ERR = 5#3 ↔ s.ERR = .gpioFailure) ∧
    (s.hostStatus.RS1 = 0#2 ↔ s.relay 1 = some .off) ∧ (s.hostStatus.RS1 = 1#2 ↔ s.relay 1 = some .on) ∧
    (s.hostStatus.RS1 = 2#2 ↔ s.relay 1 = some .unknown) ∧
    (s.hostStatus.RS2 = 0#2 ↔ s.relay 2 = some .off) ∧ (s.hostStatus.RS2 = 1#2 ↔ s.relay 2 = some .on) ∧
    (s.hostStatus.RS2 = 2#2 ↔ s.relay 2 = some .unknown) ∧
    (s.hostStatus.RS4 = 0#2 ↔ s.relay 4 = some .off) ∧ (s.hostStatus.RS4 = 1#2 ↔ s.relay 4 = some .on) ∧
    (s.hostStatus.RS4 = 2#2 ↔ s.relay 4 = some .unknown)
end

