-- ==== Sys2Proof/Laws/State.lean ====
section
/-! SUPPORT. What each field of the state is after each update: one lemma per field per update, true by
`rfl`, so that no later proof unfolds a record update. -/

namespace Sys2Proof.Machine

variable (s : State)

/-! ### `emit` -/

@[simp] theorem emit_FRAME (e : Event) : (s.emit e).FRAME = s.FRAME := rfl
@[simp] theorem emit_TC (e : Event) : (s.emit e).TC = s.TC := rfl
@[simp] theorem emit_CJ (e : Event) : (s.emit e).CJ = s.CJ := rfl
@[simp] theorem emit_FS (e : Event) : (s.emit e).FS = s.FS := rfl
@[simp] theorem emit_FV (e : Event) : (s.emit e).FV = s.FV := rfl
@[simp] theorem emit_DV (e : Event) : (s.emit e).DV = s.DV := rfl
@[simp] theorem emit_RV (e : Event) : (s.emit e).RV = s.RV := rfl
@[simp] theorem emit_ERR (e : Event) : (s.emit e).ERR = s.ERR := rfl
@[simp] theorem emit_upc (e : Event) : (s.emit e).upc = s.upc := rfl
@[simp] theorem emit_RUN (e : Event) : (s.emit e).RUN = s.RUN := rfl
@[simp] theorem emit_FLTR (e : Event) : (s.emit e).FLTR = s.FLTR := rfl
@[simp] theorem emit_RS1 (e : Event) : (s.emit e).RS1 = s.RS1 := rfl
@[simp] theorem emit_RS2 (e : Event) : (s.emit e).RS2 = s.RS2 := rfl
@[simp] theorem emit_RS4 (e : Event) : (s.emit e).RS4 = s.RS4 := rfl
@[simp] theorem emit_inp (e : Event) : (s.emit e).inp = s.inp := rfl
@[simp] theorem emit_calls (e : Event) : (s.emit e).calls = s.calls := rfl
@[simp] theorem emit_TRACE (e : Event) : (s.emit e).TRACE = s.TRACE ++ [e] := rfl

/-! ### `advance` -/

@[simp] theorem advance_FRAME : s.advance.FRAME = s.FRAME := rfl
@[simp] theorem advance_TC : s.advance.TC = s.TC := rfl
@[simp] theorem advance_CJ : s.advance.CJ = s.CJ := rfl
@[simp] theorem advance_FS : s.advance.FS = s.FS := rfl
@[simp] theorem advance_FV : s.advance.FV = s.FV := rfl
@[simp] theorem advance_DV : s.advance.DV = s.DV := rfl
@[simp] theorem advance_RV : s.advance.RV = s.RV := rfl
@[simp] theorem advance_ERR : s.advance.ERR = s.ERR := rfl
@[simp] theorem advance_upc : s.advance.upc = s.upc + 1#5 := rfl
@[simp] theorem advance_RUN : s.advance.RUN = s.RUN := rfl
@[simp] theorem advance_FLTR : s.advance.FLTR = s.FLTR := rfl
@[simp] theorem advance_RS1 : s.advance.RS1 = s.RS1 := rfl
@[simp] theorem advance_RS2 : s.advance.RS2 = s.RS2 := rfl
@[simp] theorem advance_RS4 : s.advance.RS4 = s.RS4 := rfl
@[simp] theorem advance_inp : s.advance.inp = s.inp := rfl
@[simp] theorem advance_calls : s.advance.calls = s.calls := rfl
@[simp] theorem advance_TRACE : s.advance.TRACE = s.TRACE := rfl

/-! ### `jump` -/

@[simp] theorem jump_FRAME (t : RomAddr) : (s.jump t).FRAME = s.FRAME := rfl
@[simp] theorem jump_TC (t : RomAddr) : (s.jump t).TC = s.TC := rfl
@[simp] theorem jump_CJ (t : RomAddr) : (s.jump t).CJ = s.CJ := rfl
@[simp] theorem jump_FS (t : RomAddr) : (s.jump t).FS = s.FS := rfl
@[simp] theorem jump_FV (t : RomAddr) : (s.jump t).FV = s.FV := rfl
@[simp] theorem jump_DV (t : RomAddr) : (s.jump t).DV = s.DV := rfl
@[simp] theorem jump_RV (t : RomAddr) : (s.jump t).RV = s.RV := rfl
@[simp] theorem jump_ERR (t : RomAddr) : (s.jump t).ERR = s.ERR := rfl
@[simp] theorem jump_upc (t : RomAddr) : (s.jump t).upc = t := rfl
@[simp] theorem jump_RUN (t : RomAddr) : (s.jump t).RUN = s.RUN := rfl
@[simp] theorem jump_FLTR (t : RomAddr) : (s.jump t).FLTR = s.FLTR := rfl
@[simp] theorem jump_RS1 (t : RomAddr) : (s.jump t).RS1 = s.RS1 := rfl
@[simp] theorem jump_RS2 (t : RomAddr) : (s.jump t).RS2 = s.RS2 := rfl
@[simp] theorem jump_RS4 (t : RomAddr) : (s.jump t).RS4 = s.RS4 := rfl
@[simp] theorem jump_inp (t : RomAddr) : (s.jump t).inp = s.inp := rfl
@[simp] theorem jump_calls (t : RomAddr) : (s.jump t).calls = s.calls := rfl
@[simp] theorem jump_TRACE (t : RomAddr) : (s.jump t).TRACE = s.TRACE := rfl

/-! ### `invalidateDecode` -/

@[simp] theorem invalidateDecode_FRAME : s.invalidateDecode.FRAME = s.FRAME := rfl
@[simp] theorem invalidateDecode_TC : s.invalidateDecode.TC = s.TC := rfl
@[simp] theorem invalidateDecode_CJ : s.invalidateDecode.CJ = s.CJ := rfl
@[simp] theorem invalidateDecode_FS : s.invalidateDecode.FS = s.FS := rfl
@[simp] theorem invalidateDecode_FV : s.invalidateDecode.FV = s.FV := rfl
@[simp] theorem invalidateDecode_DV : s.invalidateDecode.DV = false := rfl
@[simp] theorem invalidateDecode_RV : s.invalidateDecode.RV = false := rfl
@[simp] theorem invalidateDecode_ERR : s.invalidateDecode.ERR = s.ERR := rfl
@[simp] theorem invalidateDecode_upc : s.invalidateDecode.upc = s.upc := rfl
@[simp] theorem invalidateDecode_RUN : s.invalidateDecode.RUN = s.RUN := rfl
@[simp] theorem invalidateDecode_FLTR : s.invalidateDecode.FLTR = s.FLTR := rfl
@[simp] theorem invalidateDecode_RS1 : s.invalidateDecode.RS1 = s.RS1 := rfl
@[simp] theorem invalidateDecode_RS2 : s.invalidateDecode.RS2 = s.RS2 := rfl
@[simp] theorem invalidateDecode_RS4 : s.invalidateDecode.RS4 = s.RS4 := rfl
@[simp] theorem invalidateDecode_inp : s.invalidateDecode.inp = s.inp := rfl
@[simp] theorem invalidateDecode_calls : s.invalidateDecode.calls = s.calls := rfl
@[simp] theorem invalidateDecode_TRACE : s.invalidateDecode.TRACE = s.TRACE := rfl

/-! ### `invalidateFrame` -/

@[simp] theorem invalidateFrame_FRAME : s.invalidateFrame.FRAME = s.FRAME := rfl
@[simp] theorem invalidateFrame_TC : s.invalidateFrame.TC = s.TC := rfl
@[simp] theorem invalidateFrame_CJ : s.invalidateFrame.CJ = s.CJ := rfl
@[simp] theorem invalidateFrame_FS : s.invalidateFrame.FS = s.FS := rfl
@[simp] theorem invalidateFrame_FV : s.invalidateFrame.FV = false := rfl
@[simp] theorem invalidateFrame_DV : s.invalidateFrame.DV = s.DV := rfl
@[simp] theorem invalidateFrame_RV : s.invalidateFrame.RV = s.RV := rfl
@[simp] theorem invalidateFrame_ERR : s.invalidateFrame.ERR = s.ERR := rfl
@[simp] theorem invalidateFrame_upc : s.invalidateFrame.upc = s.upc := rfl
@[simp] theorem invalidateFrame_RUN : s.invalidateFrame.RUN = s.RUN := rfl
@[simp] theorem invalidateFrame_FLTR : s.invalidateFrame.FLTR = s.FLTR := rfl
@[simp] theorem invalidateFrame_RS1 : s.invalidateFrame.RS1 = s.RS1 := rfl
@[simp] theorem invalidateFrame_RS2 : s.invalidateFrame.RS2 = s.RS2 := rfl
@[simp] theorem invalidateFrame_RS4 : s.invalidateFrame.RS4 = s.RS4 := rfl
@[simp] theorem invalidateFrame_inp : s.invalidateFrame.inp = s.inp := rfl
@[simp] theorem invalidateFrame_calls : s.invalidateFrame.calls = s.calls := rfl
@[simp] theorem invalidateFrame_TRACE : s.invalidateFrame.TRACE = s.TRACE := rfl

/-! ### `capture` -/

@[simp] theorem capture_FRAME (F : FrameWord) : (s.capture F).FRAME = F := rfl
@[simp] theorem capture_TC (F : FrameWord) : (s.capture F).TC = s.TC := rfl
@[simp] theorem capture_CJ (F : FrameWord) : (s.capture F).CJ = s.CJ := rfl
@[simp] theorem capture_FS (F : FrameWord) : (s.capture F).FS = s.FS := rfl
@[simp] theorem capture_FV (F : FrameWord) : (s.capture F).FV = true := rfl
@[simp] theorem capture_DV (F : FrameWord) : (s.capture F).DV = s.DV := rfl
@[simp] theorem capture_RV (F : FrameWord) : (s.capture F).RV = s.RV := rfl
@[simp] theorem capture_ERR (F : FrameWord) : (s.capture F).ERR = s.ERR := rfl
@[simp] theorem capture_upc (F : FrameWord) : (s.capture F).upc = s.upc := rfl
@[simp] theorem capture_RUN (F : FrameWord) : (s.capture F).RUN = s.RUN := rfl
@[simp] theorem capture_FLTR (F : FrameWord) : (s.capture F).FLTR = s.FLTR := rfl
@[simp] theorem capture_RS1 (F : FrameWord) : (s.capture F).RS1 = s.RS1 := rfl
@[simp] theorem capture_RS2 (F : FrameWord) : (s.capture F).RS2 = s.RS2 := rfl
@[simp] theorem capture_RS4 (F : FrameWord) : (s.capture F).RS4 = s.RS4 := rfl
@[simp] theorem capture_inp (F : FrameWord) : (s.capture F).inp = s.inp := rfl
@[simp] theorem capture_calls (F : FrameWord) : (s.capture F).calls = s.calls := rfl
@[simp] theorem capture_TRACE (F : FrameWord) : (s.capture F).TRACE = s.TRACE := rfl

/-! ### `latch` -/

@[simp] theorem latch_FRAME (tc cj : Count) (fs : FaultStatus) (rv : Bool) :
    (s.latch tc cj fs rv).FRAME = s.FRAME := rfl
@[simp] theorem latch_TC (tc cj : Count) (fs : FaultStatus) (rv : Bool) :
    (s.latch tc cj fs rv).TC = tc := rfl
@[simp] theorem latch_CJ (tc cj : Count) (fs : FaultStatus) (rv : Bool) :
    (s.latch tc cj fs rv).CJ = cj := rfl
@[simp] theorem latch_FS (tc cj : Count) (fs : FaultStatus) (rv : Bool) :
    (s.latch tc cj fs rv).FS = fs := rfl
@[simp] theorem latch_FV (tc cj : Count) (fs : FaultStatus) (rv : Bool) :
    (s.latch tc cj fs rv).FV = s.FV := rfl
@[simp] theorem latch_DV (tc cj : Count) (fs : FaultStatus) (rv : Bool) :
    (s.latch tc cj fs rv).DV = true := rfl
@[simp] theorem latch_RV (tc cj : Count) (fs : FaultStatus) (rv : Bool) :
    (s.latch tc cj fs rv).RV = rv := rfl
@[simp] theorem latch_ERR (tc cj : Count) (fs : FaultStatus) (rv : Bool) :
    (s.latch tc cj fs rv).ERR = s.ERR := rfl
@[simp] theorem latch_upc (tc cj : Count) (fs : FaultStatus) (rv : Bool) :
    (s.latch tc cj fs rv).upc = s.upc := rfl
@[simp] theorem latch_RUN (tc cj : Count) (fs : FaultStatus) (rv : Bool) :
    (s.latch tc cj fs rv).RUN = s.RUN := rfl
@[simp] theorem latch_FLTR (tc cj : Count) (fs : FaultStatus) (rv : Bool) :
    (s.latch tc cj fs rv).FLTR = s.FLTR := rfl
@[simp] theorem latch_RS1 (tc cj : Count) (fs : FaultStatus) (rv : Bool) :
    (s.latch tc cj fs rv).RS1 = s.RS1 := rfl
@[simp] theorem latch_RS2 (tc cj : Count) (fs : FaultStatus) (rv : Bool) :
    (s.latch tc cj fs rv).RS2 = s.RS2 := rfl
@[simp] theorem latch_RS4 (tc cj : Count) (fs : FaultStatus) (rv : Bool) :
    (s.latch tc cj fs rv).RS4 = s.RS4 := rfl
@[simp] theorem latch_inp (tc cj : Count) (fs : FaultStatus) (rv : Bool) :
    (s.latch tc cj fs rv).inp = s.inp := rfl
@[simp] theorem latch_calls (tc cj : Count) (fs : FaultStatus) (rv : Bool) :
    (s.latch tc cj fs rv).calls = s.calls := rfl
@[simp] theorem latch_TRACE (tc cj : Count) (fs : FaultStatus) (rv : Bool) :
    (s.latch tc cj fs rv).TRACE = s.TRACE := rfl

/-! ### `closePhase` -/

@[simp] theorem closePhase_FRAME : s.closePhase.FRAME = s.FRAME := rfl
@[simp] theorem closePhase_TC : s.closePhase.TC = s.TC := rfl
@[simp] theorem closePhase_CJ : s.closePhase.CJ = s.CJ := rfl
@[simp] theorem closePhase_FS : s.closePhase.FS = s.FS := rfl
@[simp] theorem closePhase_FV : s.closePhase.FV = false := rfl
@[simp] theorem closePhase_DV : s.closePhase.DV = false := rfl
@[simp] theorem closePhase_RV : s.closePhase.RV = false := rfl
@[simp] theorem closePhase_ERR : s.closePhase.ERR = ErrCode.none := rfl
@[simp] theorem closePhase_upc : s.closePhase.upc = s.upc := rfl
@[simp] theorem closePhase_RUN : s.closePhase.RUN = s.RUN := rfl
@[simp] theorem closePhase_FLTR : s.closePhase.FLTR = s.FLTR := rfl
@[simp] theorem closePhase_RS1 : s.closePhase.RS1 = s.RS1 := rfl
@[simp] theorem closePhase_RS2 : s.closePhase.RS2 = s.RS2 := rfl
@[simp] theorem closePhase_RS4 : s.closePhase.RS4 = s.RS4 := rfl
@[simp] theorem closePhase_inp : s.closePhase.inp = s.inp := rfl
@[simp] theorem closePhase_calls : s.closePhase.calls = s.calls := rfl
@[simp] theorem closePhase_TRACE : s.closePhase.TRACE = s.TRACE := rfl

/-! ### `halt` -/

@[simp] theorem halt_FRAME : s.halt.FRAME = s.FRAME := rfl
@[simp] theorem halt_TC : s.halt.TC = s.TC := rfl
@[simp] theorem halt_CJ : s.halt.CJ = s.CJ := rfl
@[simp] theorem halt_FS : s.halt.FS = s.FS := rfl
@[simp] theorem halt_FV : s.halt.FV = s.FV := rfl
@[simp] theorem halt_DV : s.halt.DV = s.DV := rfl
@[simp] theorem halt_RV : s.halt.RV = s.RV := rfl
@[simp] theorem halt_ERR : s.halt.ERR = s.ERR := rfl
@[simp] theorem halt_upc : s.halt.upc = s.upc := rfl
@[simp] theorem halt_RUN : s.halt.RUN = RunState.halted := rfl
@[simp] theorem halt_FLTR : s.halt.FLTR = s.FLTR := rfl
@[simp] theorem halt_RS1 : s.halt.RS1 = s.RS1 := rfl
@[simp] theorem halt_RS2 : s.halt.RS2 = s.RS2 := rfl
@[simp] theorem halt_RS4 : s.halt.RS4 = s.RS4 := rfl
@[simp] theorem halt_inp : s.halt.inp = s.inp := rfl
@[simp] theorem halt_calls : s.halt.calls = s.calls := rfl
@[simp] theorem halt_TRACE : s.halt.TRACE = s.TRACE := rfl

/-! ### `raise` -/

@[simp] theorem raise_FRAME (e : ErrCode) : (s.raise e).FRAME = s.FRAME := rfl
@[simp] theorem raise_TC (e : ErrCode) : (s.raise e).TC = s.TC := rfl
@[simp] theorem raise_CJ (e : ErrCode) : (s.raise e).CJ = s.CJ := rfl
@[simp] theorem raise_FS (e : ErrCode) : (s.raise e).FS = s.FS := rfl
@[simp] theorem raise_FV (e : ErrCode) : (s.raise e).FV = s.FV := rfl
@[simp] theorem raise_DV (e : ErrCode) : (s.raise e).DV = s.DV := rfl
@[simp] theorem raise_RV (e : ErrCode) : (s.raise e).RV = s.RV := rfl
@[simp] theorem raise_ERR (e : ErrCode) :
    (s.raise e).ERR = if s.ERR = .none then e else s.ERR := rfl
@[simp] theorem raise_upc (e : ErrCode) : (s.raise e).upc = s.upc + 1#5 := rfl
@[simp] theorem raise_RUN (e : ErrCode) : (s.raise e).RUN = s.RUN := rfl
@[simp] theorem raise_FLTR (e : ErrCode) : (s.raise e).FLTR = s.FLTR := rfl
@[simp] theorem raise_RS1 (e : ErrCode) : (s.raise e).RS1 = s.RS1 := rfl
@[simp] theorem raise_RS2 (e : ErrCode) : (s.raise e).RS2 = s.RS2 := rfl
@[simp] theorem raise_RS4 (e : ErrCode) : (s.raise e).RS4 = s.RS4 := rfl
@[simp] theorem raise_inp (e : ErrCode) : (s.raise e).inp = s.inp := rfl
@[simp] theorem raise_calls (e : ErrCode) : (s.raise e).calls = s.calls := rfl
@[simp] theorem raise_TRACE (e : ErrCode) : (s.raise e).TRACE = s.TRACE := rfl

/-! ### `takeFault` -/

@[simp] theorem takeFault_FRAME (w : FaultReason) : (s.takeFault w).FRAME = s.FRAME := rfl
@[simp] theorem takeFault_TC (w : FaultReason) : (s.takeFault w).TC = s.TC := rfl
@[simp] theorem takeFault_CJ (w : FaultReason) : (s.takeFault w).CJ = s.CJ := rfl
@[simp] theorem takeFault_FS (w : FaultReason) : (s.takeFault w).FS = s.FS := rfl
@[simp] theorem takeFault_FV (w : FaultReason) : (s.takeFault w).FV = s.FV := rfl
@[simp] theorem takeFault_DV (w : FaultReason) : (s.takeFault w).DV = s.DV := rfl
@[simp] theorem takeFault_RV (w : FaultReason) : (s.takeFault w).RV = s.RV := rfl
@[simp] theorem takeFault_ERR (w : FaultReason) : (s.takeFault w).ERR = s.ERR := rfl
@[simp] theorem takeFault_upc (w : FaultReason) : (s.takeFault w).upc = s.upc := rfl
@[simp] theorem takeFault_RUN (w : FaultReason) : (s.takeFault w).RUN = RunState.faulted := rfl
@[simp] theorem takeFault_FLTR (w : FaultReason) : (s.takeFault w).FLTR = w := rfl
@[simp] theorem takeFault_RS1 (w : FaultReason) : (s.takeFault w).RS1 = s.RS1 := rfl
@[simp] theorem takeFault_RS2 (w : FaultReason) : (s.takeFault w).RS2 = s.RS2 := rfl
@[simp] theorem takeFault_RS4 (w : FaultReason) : (s.takeFault w).RS4 = s.RS4 := rfl
@[simp] theorem takeFault_inp (w : FaultReason) : (s.takeFault w).inp = s.inp := rfl
@[simp] theorem takeFault_calls (w : FaultReason) : (s.takeFault w).calls = s.calls := rfl
@[simp] theorem takeFault_TRACE (w : FaultReason) : (s.takeFault w).TRACE = s.TRACE := rfl

/-! ### `svcDelay` -/

@[simp] theorem svcDelay_FRAME : s.svcDelay.FRAME = s.FRAME := rfl
@[simp] theorem svcDelay_TC : s.svcDelay.TC = s.TC := rfl
@[simp] theorem svcDelay_CJ : s.svcDelay.CJ = s.CJ := rfl
@[simp] theorem svcDelay_FS : s.svcDelay.FS = s.FS := rfl
@[simp] theorem svcDelay_FV : s.svcDelay.FV = s.FV := rfl
@[simp] theorem svcDelay_DV : s.svcDelay.DV = s.DV := rfl
@[simp] theorem svcDelay_RV : s.svcDelay.RV = s.RV := rfl
@[simp] theorem svcDelay_ERR : s.svcDelay.ERR = s.ERR := rfl
@[simp] theorem svcDelay_upc : s.svcDelay.upc = s.upc := rfl
@[simp] theorem svcDelay_RUN : s.svcDelay.RUN = s.RUN := rfl
@[simp] theorem svcDelay_FLTR : s.svcDelay.FLTR = s.FLTR := rfl
@[simp] theorem svcDelay_RS1 : s.svcDelay.RS1 = s.RS1 := rfl
@[simp] theorem svcDelay_RS2 : s.svcDelay.RS2 = s.RS2 := rfl
@[simp] theorem svcDelay_RS4 : s.svcDelay.RS4 = s.RS4 := rfl
@[simp] theorem svcDelay_inp : s.svcDelay.inp = s.inp := rfl
@[simp] theorem svcDelay_calls : s.svcDelay.calls = s.calls := rfl
@[simp] theorem svcDelay_TRACE : s.svcDelay.TRACE = s.TRACE ++ [.delay s.inp.SETTLE] := rfl

/-! ### `svcReport` -/

@[simp] theorem svcReport_FRAME (l : BitVec 3) (r : ReportRecord) :
    (s.svcReport l r).FRAME = s.FRAME := rfl
@[simp] theorem svcReport_TC (l : BitVec 3) (r : ReportRecord) : (s.svcReport l r).TC = s.TC := rfl
@[simp] theorem svcReport_CJ (l : BitVec 3) (r : ReportRecord) : (s.svcReport l r).CJ = s.CJ := rfl
@[simp] theorem svcReport_FS (l : BitVec 3) (r : ReportRecord) : (s.svcReport l r).FS = s.FS := rfl
@[simp] theorem svcReport_FV (l : BitVec 3) (r : ReportRecord) : (s.svcReport l r).FV = s.FV := rfl
@[simp] theorem svcReport_DV (l : BitVec 3) (r : ReportRecord) : (s.svcReport l r).DV = s.DV := rfl
@[simp] theorem svcReport_RV (l : BitVec 3) (r : ReportRecord) : (s.svcReport l r).RV = s.RV := rfl
@[simp] theorem svcReport_ERR (l : BitVec 3) (r : ReportRecord) :
    (s.svcReport l r).ERR = s.ERR := rfl
@[simp] theorem svcReport_upc (l : BitVec 3) (r : ReportRecord) :
    (s.svcReport l r).upc = s.upc := rfl
@[simp] theorem svcReport_RUN (l : BitVec 3) (r : ReportRecord) :
    (s.svcReport l r).RUN = s.RUN := rfl
@[simp] theorem svcReport_FLTR (l : BitVec 3) (r : ReportRecord) :
    (s.svcReport l r).FLTR = s.FLTR := rfl
@[simp] theorem svcReport_RS1 (l : BitVec 3) (r : ReportRecord) :
    (s.svcReport l r).RS1 = s.RS1 := rfl
@[simp] theorem svcReport_RS2 (l : BitVec 3) (r : ReportRecord) :
    (s.svcReport l r).RS2 = s.RS2 := rfl
@[simp] theorem svcReport_RS4 (l : BitVec 3) (r : ReportRecord) :
    (s.svcReport l r).RS4 = s.RS4 := rfl
@[simp] theorem svcReport_inp (l : BitVec 3) (r : ReportRecord) :
    (s.svcReport l r).inp = s.inp := rfl
@[simp] theorem svcReport_calls (l : BitVec 3) (r : ReportRecord) :
    (s.svcReport l r).calls = s.calls := rfl
@[simp] theorem svcReport_TRACE (l : BitVec 3) (r : ReportRecord) :
    (s.svcReport l r).TRACE = s.TRACE ++ [.report l r] := rfl

/-! ### `svcLookupPin` -/

@[simp] theorem svcLookupPin_answer (role : Role) : (s.svcLookupPin role).1 = s.lookupAnswer := rfl
@[simp] theorem svcLookupPin_FRAME (role : Role) : (s.svcLookupPin role).2.FRAME = s.FRAME := rfl
@[simp] theorem svcLookupPin_TC (role : Role) : (s.svcLookupPin role).2.TC = s.TC := rfl
@[simp] theorem svcLookupPin_CJ (role : Role) : (s.svcLookupPin role).2.CJ = s.CJ := rfl
@[simp] theorem svcLookupPin_FS (role : Role) : (s.svcLookupPin role).2.FS = s.FS := rfl
@[simp] theorem svcLookupPin_FV (role : Role) : (s.svcLookupPin role).2.FV = s.FV := rfl
@[simp] theorem svcLookupPin_DV (role : Role) : (s.svcLookupPin role).2.DV = s.DV := rfl
@[simp] theorem svcLookupPin_RV (role : Role) : (s.svcLookupPin role).2.RV = s.RV := rfl
@[simp] theorem svcLookupPin_ERR (role : Role) : (s.svcLookupPin role).2.ERR = s.ERR := rfl
@[simp] theorem svcLookupPin_upc (role : Role) : (s.svcLookupPin role).2.upc = s.upc := rfl
@[simp] theorem svcLookupPin_RUN (role : Role) : (s.svcLookupPin role).2.RUN = s.RUN := rfl
@[simp] theorem svcLookupPin_FLTR (role : Role) : (s.svcLookupPin role).2.FLTR = s.FLTR := rfl
@[simp] theorem svcLookupPin_RS1 (role : Role) : (s.svcLookupPin role).2.RS1 = s.RS1 := rfl
@[simp] theorem svcLookupPin_RS2 (role : Role) : (s.svcLookupPin role).2.RS2 = s.RS2 := rfl
@[simp] theorem svcLookupPin_RS4 (role : Role) : (s.svcLookupPin role).2.RS4 = s.RS4 := rfl
@[simp] theorem svcLookupPin_inp (role : Role) : (s.svcLookupPin role).2.inp = s.inp := rfl
@[simp] theorem svcLookupPin_calls (role : Role) :
    (s.svcLookupPin role).2.calls = { s.calls with lookups := s.calls.lookups + 1 } := rfl
@[simp] theorem svcLookupPin_TRACE (role : Role) :
    (s.svcLookupPin role).2.TRACE = s.TRACE ++ [.lookupPin s.inp.SOCKET role s.lookupAnswer] := rfl

/-! ### `pinCall` -/

@[simp] theorem pinCall_answer (e : PinAnswer → Event) : (s.pinCall e).1 = s.pinAnswer 0 := rfl
@[simp] theorem pinCall_FRAME (e : PinAnswer → Event) : (s.pinCall e).2.FRAME = s.FRAME := rfl
@[simp] theorem pinCall_TC (e : PinAnswer → Event) : (s.pinCall e).2.TC = s.TC := rfl
@[simp] theorem pinCall_CJ (e : PinAnswer → Event) : (s.pinCall e).2.CJ = s.CJ := rfl
@[simp] theorem pinCall_FS (e : PinAnswer → Event) : (s.pinCall e).2.FS = s.FS := rfl
@[simp] theorem pinCall_FV (e : PinAnswer → Event) : (s.pinCall e).2.FV = s.FV := rfl
@[simp] theorem pinCall_DV (e : PinAnswer → Event) : (s.pinCall e).2.DV = s.DV := rfl
@[simp] theorem pinCall_RV (e : PinAnswer → Event) : (s.pinCall e).2.RV = s.RV := rfl
@[simp] theorem pinCall_ERR (e : PinAnswer → Event) : (s.pinCall e).2.ERR = s.ERR := rfl
@[simp] theorem pinCall_upc (e : PinAnswer → Event) : (s.pinCall e).2.upc = s.upc := rfl
@[simp] theorem pinCall_RUN (e : PinAnswer → Event) : (s.pinCall e).2.RUN = s.RUN := rfl
@[simp] theorem pinCall_FLTR (e : PinAnswer → Event) : (s.pinCall e).2.FLTR = s.FLTR := rfl
@[simp] theorem pinCall_RS1 (e : PinAnswer → Event) : (s.pinCall e).2.RS1 = s.RS1 := rfl
@[simp] theorem pinCall_RS2 (e : PinAnswer → Event) : (s.pinCall e).2.RS2 = s.RS2 := rfl
@[simp] theorem pinCall_RS4 (e : PinAnswer → Event) : (s.pinCall e).2.RS4 = s.RS4 := rfl
@[simp] theorem pinCall_inp (e : PinAnswer → Event) : (s.pinCall e).2.inp = s.inp := rfl
@[simp] theorem pinCall_calls (e : PinAnswer → Event) :
    (s.pinCall e).2.calls = { s.calls with pins := s.calls.pins + 1 } := rfl
@[simp] theorem pinCall_TRACE (e : PinAnswer → Event) :
    (s.pinCall e).2.TRACE = s.TRACE ++ [e (s.pinAnswer 0)] := rfl

/-! ### `svcTransfer` -/

@[simp] theorem svcTransfer_answer : s.svcTransfer.1 = s.busAnswer := rfl
@[simp] theorem svcTransfer_FRAME : s.svcTransfer.2.FRAME = s.FRAME := rfl
@[simp] theorem svcTransfer_TC : s.svcTransfer.2.TC = s.TC := rfl
@[simp] theorem svcTransfer_CJ : s.svcTransfer.2.CJ = s.CJ := rfl
@[simp] theorem svcTransfer_FS : s.svcTransfer.2.FS = s.FS := rfl
@[simp] theorem svcTransfer_FV : s.svcTransfer.2.FV = s.FV := rfl
@[simp] theorem svcTransfer_DV : s.svcTransfer.2.DV = s.DV := rfl
@[simp] theorem svcTransfer_RV : s.svcTransfer.2.RV = s.RV := rfl
@[simp] theorem svcTransfer_ERR : s.svcTransfer.2.ERR = s.ERR := rfl
@[simp] theorem svcTransfer_upc : s.svcTransfer.2.upc = s.upc := rfl
@[simp] theorem svcTransfer_RUN : s.svcTransfer.2.RUN = s.RUN := rfl
@[simp] theorem svcTransfer_FLTR : s.svcTransfer.2.FLTR = s.FLTR := rfl
@[simp] theorem svcTransfer_RS1 : s.svcTransfer.2.RS1 = s.RS1 := rfl
@[simp] theorem svcTransfer_RS2 : s.svcTransfer.2.RS2 = s.RS2 := rfl
@[simp] theorem svcTransfer_RS4 : s.svcTransfer.2.RS4 = s.RS4 := rfl
@[simp] theorem svcTransfer_inp : s.svcTransfer.2.inp = s.inp := rfl
@[simp] theorem svcTransfer_calls :
    s.svcTransfer.2.calls = { s.calls with transfers := s.calls.transfers + 1 } := rfl
@[simp] theorem svcTransfer_TRACE :
    s.svcTransfer.2.TRACE = s.TRACE ++ [.transfer none 4 s.busAnswer] := rfl

/-! ### `sampleStop` -/

@[simp] theorem sampleStop_answer : s.sampleStop.1 = s.stopLevel := rfl
@[simp] theorem sampleStop_FRAME : s.sampleStop.2.FRAME = s.FRAME := rfl
@[simp] theorem sampleStop_TC : s.sampleStop.2.TC = s.TC := rfl
@[simp] theorem sampleStop_CJ : s.sampleStop.2.CJ = s.CJ := rfl
@[simp] theorem sampleStop_FS : s.sampleStop.2.FS = s.FS := rfl
@[simp] theorem sampleStop_FV : s.sampleStop.2.FV = s.FV := rfl
@[simp] theorem sampleStop_DV : s.sampleStop.2.DV = s.DV := rfl
@[simp] theorem sampleStop_RV : s.sampleStop.2.RV = s.RV := rfl
@[simp] theorem sampleStop_ERR : s.sampleStop.2.ERR = s.ERR := rfl
@[simp] theorem sampleStop_upc : s.sampleStop.2.upc = s.upc := rfl
@[simp] theorem sampleStop_RUN : s.sampleStop.2.RUN = s.RUN := rfl
@[simp] theorem sampleStop_FLTR : s.sampleStop.2.FLTR = s.FLTR := rfl
@[simp] theorem sampleStop_RS1 : s.sampleStop.2.RS1 = s.RS1 := rfl
@[simp] theorem sampleStop_RS2 : s.sampleStop.2.RS2 = s.RS2 := rfl
@[simp] theorem sampleStop_RS4 : s.sampleStop.2.RS4 = s.RS4 := rfl
@[simp] theorem sampleStop_inp : s.sampleStop.2.inp = s.inp := rfl
@[simp] theorem sampleStop_calls :
    s.sampleStop.2.calls = { s.calls with stops := s.calls.stops + 1 } := rfl
@[simp] theorem sampleStop_TRACE : s.sampleStop.2.TRACE = s.TRACE := rfl

/-! ### `applyReset` -/

@[simp] theorem applyReset_FRAME : s.applyReset.FRAME = Config.unwrittenFrame := rfl
@[simp] theorem applyReset_TC : s.applyReset.TC = Config.unwrittenTc := rfl
@[simp] theorem applyReset_CJ : s.applyReset.CJ = Config.unwrittenCj := rfl
@[simp] theorem applyReset_FS : s.applyReset.FS = Config.unwrittenFs := rfl
@[simp] theorem applyReset_FV : s.applyReset.FV = false := rfl
@[simp] theorem applyReset_DV : s.applyReset.DV = false := rfl
@[simp] theorem applyReset_RV : s.applyReset.RV = false := rfl
@[simp] theorem applyReset_ERR : s.applyReset.ERR = ErrCode.none := rfl
@[simp] theorem applyReset_upc : s.applyReset.upc = 0#5 := rfl
@[simp] theorem applyReset_RUN : s.applyReset.RUN = RunState.running := rfl
@[simp] theorem applyReset_FLTR : s.applyReset.FLTR = FaultReason.none := rfl
@[simp] theorem applyReset_RS1 : s.applyReset.RS1 = RelayState.unknown := rfl
@[simp] theorem applyReset_RS2 : s.applyReset.RS2 = RelayState.unknown := rfl
@[simp] theorem applyReset_RS4 : s.applyReset.RS4 = RelayState.unknown := rfl
@[simp] theorem applyReset_inp : s.applyReset.inp = s.inp := rfl
@[simp] theorem applyReset_calls : s.applyReset.calls = s.calls := rfl
@[simp] theorem applyReset_TRACE : s.applyReset.TRACE = [] := rfl

/-! ### `setRelay` -/

@[simp] theorem setRelay_FRAME (ch : Nat) (v : RelayState) : (s.setRelay ch v).FRAME = s.FRAME := by
  unfold State.setRelay; split <;> rfl
@[simp] theorem setRelay_TC (ch : Nat) (v : RelayState) : (s.setRelay ch v).TC = s.TC := by
  unfold State.setRelay; split <;> rfl
@[simp] theorem setRelay_CJ (ch : Nat) (v : RelayState) : (s.setRelay ch v).CJ = s.CJ := by
  unfold State.setRelay; split <;> rfl
@[simp] theorem setRelay_FS (ch : Nat) (v : RelayState) : (s.setRelay ch v).FS = s.FS := by
  unfold State.setRelay; split <;> rfl
@[simp] theorem setRelay_FV (ch : Nat) (v : RelayState) : (s.setRelay ch v).FV = s.FV := by
  unfold State.setRelay; split <;> rfl
@[simp] theorem setRelay_DV (ch : Nat) (v : RelayState) : (s.setRelay ch v).DV = s.DV := by
  unfold State.setRelay; split <;> rfl
@[simp] theorem setRelay_RV (ch : Nat) (v : RelayState) : (s.setRelay ch v).RV = s.RV := by
  unfold State.setRelay; split <;> rfl
@[simp] theorem setRelay_ERR (ch : Nat) (v : RelayState) : (s.setRelay ch v).ERR = s.ERR := by
  unfold State.setRelay; split <;> rfl
@[simp] theorem setRelay_upc (ch : Nat) (v : RelayState) : (s.setRelay ch v).upc = s.upc := by
  unfold State.setRelay; split <;> rfl
@[simp] theorem setRelay_RUN (ch : Nat) (v : RelayState) : (s.setRelay ch v).RUN = s.RUN := by
  unfold State.setRelay; split <;> rfl
@[simp] theorem setRelay_FLTR (ch : Nat) (v : RelayState) : (s.setRelay ch v).FLTR = s.FLTR := by
  unfold State.setRelay; split <;> rfl
@[simp] theorem setRelay_inp (ch : Nat) (v : RelayState) : (s.setRelay ch v).inp = s.inp := by
  unfold State.setRelay; split <;> rfl
@[simp] theorem setRelay_calls (ch : Nat) (v : RelayState) : (s.setRelay ch v).calls = s.calls := by
  unfold State.setRelay; split <;> rfl
@[simp] theorem setRelay_TRACE (ch : Nat) (v : RelayState) : (s.setRelay ch v).TRACE = s.TRACE := by
  unfold State.setRelay; split <;> rfl
@[simp] theorem setRelay_RS1 (ch : Nat) (v : RelayState) :
    (s.setRelay ch v).RS1 = if ch = 1 then v else s.RS1 := by
  unfold State.setRelay; split <;> simp_all
@[simp] theorem setRelay_RS2 (ch : Nat) (v : RelayState) :
    (s.setRelay ch v).RS2 = if ch = 2 then v else s.RS2 := by
  unfold State.setRelay; split <;> simp_all
@[simp] theorem setRelay_RS4 (ch : Nat) (v : RelayState) :
    (s.setRelay ch v).RS4 = if ch = 4 then v else s.RS4 := by
  unfold State.setRelay; split <;> simp_all

/-! ### Codes and the host's view: the codes tell the values apart -/

theorem runCode_injective : Function.Injective runCode := by
  intro a b h; cases a <;> cases b <;> first | rfl | cases h
theorem faultCode_injective : Function.Injective faultCode := by
  intro a b h; cases a <;> cases b <;> first | rfl | cases h
theorem errCode_injective : Function.Injective errCode := by
  intro a b h; cases a <;> cases b <;> first | rfl | cases h
theorem relayCode_injective : Function.Injective relayCode := by
  intro a b h; cases a <;> cases b <;> first | rfl | cases h

@[simp] theorem hostStatus_RUN : s.hostStatus.RUN = runCode s.RUN := rfl
@[simp] theorem hostStatus_FLTR : s.hostStatus.FLTR = faultCode s.FLTR := rfl
@[simp] theorem hostStatus_ERR : s.hostStatus.ERR = errCode s.ERR := rfl
@[simp] theorem hostStatus_upc : s.hostStatus.upc = s.upc := rfl
@[simp] theorem hostStatus_RS1 : s.hostStatus.RS1 = relayCode s.RS1 := rfl
@[simp] theorem hostStatus_RS2 : s.hostStatus.RS2 = relayCode s.RS2 := rfl
@[simp] theorem hostStatus_RS4 : s.hostStatus.RS4 = relayCode s.RS4 := rfl

end Sys2Proof.Machine
end

