-- ==== Sys2Proof/Laws/Decoder.lean ====
section
/-! SUPPORT. The frame decoder: the rows of R78 as tests of single bits, and what the meaning of a frame's
class leaves. -/

namespace Sys2Proof.Machine

/-- A masked comparison is a comparison of the bits of the mask. -/
theorem and_eq_iff (F m p : FrameWord) :
    F &&& m = p ↔ ∀ k < 32, (F.getLsbD k && m.getLsbD k) = p.getLsbD k := by
  constructor
  · rintro rfl k -
    simp
  · intro h
    apply BitVec.eq_of_getLsbD_eq
    intro k hk
    simpa using h k hk

theorem frameMatches_rd (F : FrameWord) : frameMatches .rd F = !F.getLsbD 16 := by
  rw [Bool.eq_iff_iff, frameMatches, beq_iff_eq, and_eq_iff]
  constructor
  · intro h; have h16 := h 16 (by omega); simpa [frameMask, framePattern] using h16
  · intro h k hk; interval_cases k <;> simp_all [frameMask, framePattern]

theorem frameMatches_fltOc (F : FrameWord) :
    frameMatches .fltOc F = (F.getLsbD 16 && F.getLsbD 0) := by
  rw [Bool.eq_iff_iff, frameMatches, beq_iff_eq, and_eq_iff]
  constructor
  · intro h
    have h16 := h 16 (by omega)
    have h0 := h 0 (by omega)
    simp_all [frameMask, framePattern]
  · intro h k hk; interval_cases k <;> simp_all [frameMask, framePattern]

theorem frameMatches_fltScg (F : FrameWord) :
    frameMatches .fltScg F = (F.getLsbD 16 && !F.getLsbD 0 && F.getLsbD 1) := by
  rw [Bool.eq_iff_iff, frameMatches, beq_iff_eq, and_eq_iff]
  constructor
  · intro h
    have h16 := h 16 (by omega)
    have h0 := h 0 (by omega)
    have h1 := h 1 (by omega)
    simp_all [frameMask, framePattern]
  · intro h k hk; interval_cases k <;> simp_all [frameMask, framePattern]

theorem frameMatches_fltScv (F : FrameWord) :
    frameMatches .fltScv F =
      (F.getLsbD 16 && !F.getLsbD 0 && !F.getLsbD 1 && F.getLsbD 2) := by
  rw [Bool.eq_iff_iff, frameMatches, beq_iff_eq, and_eq_iff]
  constructor
  · intro h
    have h16 := h 16 (by omega)
    have h0 := h 0 (by omega)
    have h1 := h 1 (by omega)
    have h2 := h 2 (by omega)
    simp_all [frameMask, framePattern]
  · intro h k hk; interval_cases k <;> simp_all [frameMask, framePattern]

theorem frameMatches_fltUnk (F : FrameWord) :
    frameMatches .fltUnk F =
      (F.getLsbD 16 && !F.getLsbD 0 && !F.getLsbD 1 && !F.getLsbD 2) := by
  rw [Bool.eq_iff_iff, frameMatches, beq_iff_eq, and_eq_iff]
  constructor
  · intro h
    have h16 := h 16 (by omega)
    have h0 := h 0 (by omega)
    have h1 := h 1 (by omega)
    have h2 := h 2 (by omega)
    simp_all [frameMask, framePattern]
  · intro h k hk; interval_cases k <;> simp_all [frameMask, framePattern]

/-- The class of a frame by its four deciding bits. -/
theorem classOf_eq (F : FrameWord) :
    classOf F =
      if F.getLsbD 16 = false then .rd
      else if F.getLsbD 0 then .fltOc
      else if F.getLsbD 1 then .fltScg
      else if F.getLsbD 2 then .fltScv
      else .fltUnk := by
  simp only [classOf, frameMatches_rd, frameMatches_fltOc, frameMatches_fltScg, frameMatches_fltScv]
  cases F.getLsbD 16 <;> cases F.getLsbD 0 <;> cases F.getLsbD 1 <;> cases F.getLsbD 2 <;> rfl

/-- The fault status of each class. -/
def classStatus : FrameClass → FaultStatus
  | .rd => .none
  | .fltOc => .openCircuit
  | .fltScg => .shortToGround
  | .fltScv => .shortToVcc
  | .fltUnk => .unknownFault

theorem fsOf_eq (F : FrameWord) : fsOf F = classStatus (classOf F) := by
  rw [classOf_eq, fsOf, faultFlag, bitOc, bitScg, bitScv]
  cases F.getLsbD 16 <;> cases F.getLsbD 0 <;> cases F.getLsbD 1 <;> cases F.getLsbD 2 <;> rfl

/-- What the meaning of a frame's class leaves: the decode latched, and `pc` advanced. -/
theorem runFrame_eq (F : FrameWord) (s : State) :
    runFrame F s =
      .next (s.latch (decodeTriple F).tc (decodeTriple F).cj (decodeTriple F).fs
        (readingFlag (decodeTriple F).fs)).advance := by
  unfold runFrame decodeTriple
  rw [fsOf_eq]
  cases classOf F <;> rfl

/-! ### What the other micro-operations can do -/

theorem execWait_cases {s t : State} (h : execWait s = .next t) :
    (s.ERR ≠ .none ∧ t = s.advance) ∨ (s.ERR = .none ∧ t = s.svcDelay.advance) := by
  unfold execWait at h
  by_cases hs : s.ERR = .none <;> simp_all [State.skip]

theorem execAcq_cases {s t : State} (h : execAcq s = .next t) :
    (s.ERR ≠ .none ∧ t = s.advance) ∨
    (s.ERR = .none ∧ ∃ F, t = (s.invalidateDecode.svcTransfer.2.capture F).advance) ∨
    (s.ERR = .none ∧
      t = s.invalidateDecode.svcTransfer.2.invalidateFrame.raise .busTransferFailure) := by
  unfold execAcq at h
  by_cases hs : s.ERR = .none
  · rw [if_neg (by simp [State.skip, hs])] at h
    split at h <;> simp only [Host.Outcome.next.injEq] at h <;> subst h
    · next b0 b1 b2 b3 s1 heq =>
      exact .inr (.inl ⟨hs, frameOfBytes b0 b1 b2 b3, by rw [heq]⟩)
    · next heq => exact .inr (.inr ⟨hs, by rw [heq]⟩)
    · next heq => exact .inr (.inr ⟨hs, by rw [heq]⟩)
  · rw [if_pos (by simp [State.skip, hs])] at h
    exact .inl ⟨hs, by simpa using h.symm⟩

theorem execDec_cases {s t : State} (h : execDec s = .next t) :
    (s.ERR ≠ .none ∧ t = s.advance) ∨
    (s.ERR = .none ∧ s.FV = false ∧ t = s.takeFault .frameNotValid) ∨
    (s.ERR = .none ∧ s.FV = true ∧
      t = (s.latch (decodeTriple s.FRAME).tc (decodeTriple s.FRAME).cj (decodeTriple s.FRAME).fs
        (readingFlag (decodeTriple s.FRAME).fs)).advance) := by
  unfold execDec at h
  rw [runFrame_eq] at h
  by_cases hs : s.ERR = .none <;> cases hf : s.FV <;> simp_all [State.skip]

theorem execRpt_cases {lbl : Nat} {s t : State} (h : execRpt lbl s = .next t) :
    (∃ r, s.reportRecord = some r ∧
      t = (s.svcReport (BitVec.ofNat 3 lbl) r).closePhase.advance) ∨
    (s.ERR = .none ∧ s.DV = false ∧ t = s.takeFault .nothingToReport) := by
  unfold execRpt at h
  split at h
  · next r hr => exact .inl ⟨r, hr, by simpa using h.symm⟩
  · next hr =>
    have : s.ERR = .none ∧ s.DV = false := by
      unfold State.reportRecord at hr
      by_cases he : s.ERR = .none <;> cases hd : s.DV <;> cases hv : s.RV <;> simp_all
    exact .inr ⟨this.1, this.2, by simpa using h.symm⟩

theorem execLoop_cases {a : Nat} {s t : State} (h : execLoop a s = .next t) :
    (s.stopLevel = false ∧ t = s.sampleStop.2.jump (BitVec.ofNat 5 a)) ∨
    (s.stopLevel = true ∧ t = s.sampleStop.2.advance) := by
  unfold execLoop State.sampleStop at h
  cases hs : s.stopLevel <;> simp_all [State.sampleStop]

end Sys2Proof.Machine
end

