-- ==== Sys2Proof/Laws/Exec.lean ====
section
/-! SUPPORT. What each shared operation and each meaning can do, said once: the provers cite these and do
not unfold the meanings again. -/

namespace Sys2Proof.Machine

/-! ### The answers after a call -/

@[simp] theorem svcLookupPin_pinAnswer (s : State) (role : Role) (k : Nat) :
    (s.svcLookupPin role).2.pinAnswer k = s.pinAnswer k := rfl

@[simp] theorem pinCall_pinAnswer (s : State) (e : PinAnswer → Event) (k : Nat) :
    (s.pinCall e).2.pinAnswer k = s.pinAnswer (k + 1) := by
  simp [State.pinAnswer, State.pinCall, Nat.add_assoc, Nat.add_comm 1 k]

@[simp] theorem invalidateDecode_busAnswer (s : State) :
    s.invalidateDecode.busAnswer = s.busAnswer := rfl

theorem skip_iff (s : State) : s.skip = true ↔ s.ERR ≠ .none := by simp [State.skip]

theorem skip_eq_false_iff (s : State) : s.skip = false ↔ s.ERR = .none := by simp [State.skip]

/-! ### The relay cells -/

theorem relay_setRelay_of_ne (s : State) {ch c : Nat} (v : RelayState) (h : c ≠ ch) :
    (s.setRelay ch v).relay c = s.relay c := by
  unfold State.relay
  split <;> simp_all <;> omega

theorem relay_setRelay_of_role (s : State) {ch : Nat} {role : Role} (v : RelayState)
    (h : roleOf ch = .ok role) : (s.setRelay ch v).relay ch = some v := by
  unfold roleOf at h
  split at h <;> first | (cases h; done) | simp [State.relay]

/-! ### `SETR` -/

theorem setRelay_with (s : State) (ch : Nat) (v : RelayState) (c : Calls) (tr : List Event) :
    State.setRelay { s with calls := c, TRACE := tr } ch v =
      { s.setRelay ch v with calls := c, TRACE := tr } := by
  unfold State.setRelay
  split <;> rfl

/-- The state after a pin call whose answer is known. -/
theorem pinCall_state {s : State} {e : PinAnswer → Event} {a : PinAnswer} (h : s.pinAnswer 0 = a) :
    (s.pinCall e).2 = { s with
      calls := { s.calls with pins := s.calls.pins + 1 }, TRACE := s.TRACE ++ [e a] } := by
  rw [← h]
  rfl

/-- The pin calls of a `SETR` in closed form: how many were made, what they left. -/
theorem drivePin_eq (s : State) (ch : Nat) (en : Bool) (p : PinId) :
    s.drivePin ch en p =
      match s.pinAnswer 0, s.pinAnswer 1, s.pinAnswer 2 with
      | .err, _, _ => { s.setRelay ch .unknown with
          ERR := if s.ERR = .none then .gpioFailure else s.ERR, upc := s.upc + 1#5,
          calls := { s.calls with pins := s.calls.pins + 1 },
          TRACE := s.TRACE ++ [.initPin p .err] }
      | .ok, .err, _ => { s.setRelay ch .unknown with
          ERR := if s.ERR = .none then .gpioFailure else s.ERR, upc := s.upc + 1#5,
          calls := { s.calls with pins := s.calls.pins + 2 },
          TRACE := s.TRACE ++ [.initPin p .ok, .setDirection p .output .err] }
      | .ok, .ok, .err => { s.setRelay ch .unknown with
          ERR := if s.ERR = .none then .gpioFailure else s.ERR, upc := s.upc + 1#5,
          calls := { s.calls with pins := s.calls.pins + 3 },
          TRACE := s.TRACE ++ [.initPin p .ok, .setDirection p .output .ok, .setValue p en .err] }
      | .ok, .ok, .ok => { s.setRelay ch (if en then .on else .off) with
          upc := s.upc + 1#5,
          calls := { s.calls with pins := s.calls.pins + 3 },
          TRACE := s.TRACE ++ [.initPin p .ok, .setDirection p .output .ok, .setValue p en .ok] } := by
  have split_call : ∀ (u : State) (e : PinAnswer → Event) {a : PinAnswer}, u.pinAnswer 0 = a →
      u.pinCall e = (a, (u.pinCall e).2) := by
    intro u e a h
    rw [← h]
    rfl
  unfold State.drivePin State.svcInitPin State.svcSetDirection State.svcSetValue
  cases h0 : s.pinAnswer 0 with
  | err =>
    rw [split_call s _ h0, pinCall_state h0]
    simp [State.pinFailure, State.raise, setRelay_with]
  | ok =>
    rw [split_call s _ h0]
    dsimp only
    cases h1 : s.pinAnswer 1 with
    | err =>
      have h1' : (s.pinCall (.initPin p)).2.pinAnswer 0 = .err := by simpa using h1
      rw [split_call _ _ h1']
      dsimp only
      rw [pinCall_state h1', pinCall_state h0]
      simp [State.pinFailure, State.raise, setRelay_with]
    | ok =>
      have h1' : (s.pinCall (.initPin p)).2.pinAnswer 0 = .ok := by simpa using h1
      rw [split_call _ _ h1']
      dsimp only
      cases h2 : s.pinAnswer 2 with
      | err =>
        have h2' : ((s.pinCall (.initPin p)).2.pinCall (.setDirection p .output)).2.pinAnswer 0 =
          .err := by simpa using h2
        rw [split_call _ _ h2']
        dsimp only
        rw [pinCall_state h2', pinCall_state h1', pinCall_state h0]
        simp [State.pinFailure, State.raise, setRelay_with]
      | ok =>
        have h2' : ((s.pinCall (.initPin p)).2.pinCall (.setDirection p .output)).2.pinAnswer 0 =
          .ok := by simpa using h2
        rw [split_call _ _ h2']
        dsimp only
        rw [pinCall_state h2', pinCall_state h1', pinCall_state h0]
        simp [State.advance, setRelay_with]

/-- A `SETR` of a usable channel that is not suppressed: the lookup, then the pin calls. -/
theorem execSetr_of_role {ch : Nat} {en : Bool} {role : Role} {s : State} (hr : roleOf ch = .ok role)
    (h : s.ERR = .none ∨ en = false) :
    execSetr ch en s =
      match s.lookupAnswer with
      | .err => .next (((s.svcLookupPin role).2.setRelay ch .unknown).raise .pinLookupFailed)
      | .ok p => .next ((s.svcLookupPin role).2.drivePin ch en p) := by
  have hs : ¬ ((s.skip && en) = true) := by rcases h with h | h <;> simp [State.skip, h]
  simp only [execSetr, if_neg hs, State.resolve, hr]
  rw [show s.svcLookupPin role = (s.lookupAnswer, (s.svcLookupPin role).2) from rfl]
  cases s.lookupAnswer <;> rfl

/-- The events of a `SETR` are relay calls. -/
def Event.isRelayCall : Event → Bool
  | .lookupPin _ _ _ => true
  | .initPin _ _ => true
  | .setDirection _ _ _ => true
  | .setValue _ _ _ => true
  | .delay _ => false
  | .transfer _ _ _ => false
  | .report _ _ => false

/-- Everything the relay part of a `SETR` leaves: the cell of the channel, an error if it failed, the
relay calls it made, and `pc` advanced; nothing else changes. -/
structure RelayDriven (s t : State) (ch : Nat) (en : Bool) : Prop where
  outcome : (t.ERR = s.ERR ∧ ∃ c tr, t = { s.setRelay ch (if en then .on else .off) with
      upc := s.upc + 1#5, calls := c, TRACE := s.TRACE ++ tr }) ∨
    (∃ e c tr, e ≠ ErrCode.none ∧ e ≠ ErrCode.busTransferFailure ∧
      t = { s.setRelay ch .unknown with
        ERR := if s.ERR = .none then e else s.ERR, upc := s.upc + 1#5, calls := c,
        TRACE := s.TRACE ++ tr })
  events : ∃ tr, t.TRACE = s.TRACE ++ tr ∧ ∀ e ∈ tr, e.isRelayCall = true

/-- What a `SETR` can do: it is suppressed, its channel does not resolve, or it drives the relay. -/
theorem execSetr_cases {ch : Nat} {en : Bool} {s t : State} (h : execSetr ch en s = .next t) :
    (s.ERR ≠ .none ∧ en = true ∧ t = s.advance) ∨
    (∃ e, roleOf ch = .error e ∧ e ≠ .pinLookupFailed ∧ (s.ERR = .none ∨ en = false) ∧
      t = s.raise (resolveErrCode e)) ∨
    (∃ role, roleOf ch = .ok role ∧ (s.ERR = .none ∨ en = false) ∧ RelayDriven s t ch en) := by
  unfold execSetr at h
  by_cases hs : (s.skip && en) = true
  · rw [if_pos hs] at h
    simp only [Bool.and_eq_true, skip_iff] at hs
    exact .inl ⟨hs.1, hs.2, by simpa using h.symm⟩
  · rw [if_neg hs] at h
    have hrun : s.ERR = .none ∨ en = false := by
      simp only [Bool.and_eq_true, skip_iff, not_and_or, not_not, Bool.not_eq_true] at hs
      exact hs
    unfold State.resolve at h
    cases hr : roleOf ch with
    | error e =>
      rw [hr] at h
      have he : e ≠ .pinLookupFailed := by
        unfold roleOf at hr
        split at hr <;> simp_all <;> (rw [← hr]; decide)
      refine .inr (.inl ⟨e, rfl, he, hrun, ?_⟩)
      cases e <;> simp_all [State.relayAfterResolveError]
    | ok role =>
      rw [hr] at h
      refine .inr (.inr ⟨role, rfl, hrun, ?_⟩)
      cases ha : s.lookupAnswer with
      | err =>
        simp only [State.svcLookupPin, ha, State.relayAfterResolveError, resolveErrCode,
          State.raise, setRelay_with, Host.Outcome.next.injEq] at h
        subst h
        exact ⟨.inr ⟨.pinLookupFailed, _, _, by decide, by decide, by simp; exact ⟨rfl, rfl⟩⟩,
          _, rfl, by simp [Event.isRelayCall]⟩
      | ok p =>
        simp only [State.svcLookupPin, ha, Host.Outcome.next.injEq, drivePin_eq] at h
        subst h
        split
        · exact ⟨.inr ⟨.gpioFailure, _, _, by decide, by decide, by simp [setRelay_with]; exact ⟨rfl, rfl⟩⟩,
            _, List.append_assoc _ _ _, by simp [Event.isRelayCall]⟩
        · exact ⟨.inr ⟨.gpioFailure, _, _, by decide, by decide, by simp [setRelay_with]; exact ⟨rfl, rfl⟩⟩,
            _, List.append_assoc _ _ _, by simp [Event.isRelayCall]⟩
        · exact ⟨.inr ⟨.gpioFailure, _, _, by decide, by decide, by simp [setRelay_with]; exact ⟨rfl, rfl⟩⟩,
            _, List.append_assoc _ _ _, by simp [Event.isRelayCall]⟩
        · exact ⟨.inl ⟨by simp, _, _, by simp [setRelay_with]; exact ⟨rfl, rfl⟩⟩,
            _, List.append_assoc _ _ _, by simp [Event.isRelayCall]⟩

end Sys2Proof.Machine
end

