-- ==== Sys2Proof/Laws/Memory.lean ====
section
/-! SUPPORT. The ROM list: what a store changes, and that every operation on the list keeps its
canonical form. -/

namespace Sys2Proof.Machine

/-- A list of cells from `lo` on reads below `lo` as an unlisted address does. -/
theorem Memory.read_below {m : List Host.Cell} {lo a : Nat} (h : Memory.wfFrom lo m = true)
    (ha : a < lo) : Memory.read m a = Memory.unlisted a := by
  induction m generalizing lo with
  | nil => rfl
  | cons c rest ih =>
    obtain ⟨k, b⟩ := c
    simp only [Memory.wfFrom, Bool.and_eq_true, decide_eq_true_eq] at h
    obtain ⟨⟨⟨hlo, -⟩, -⟩, hrest⟩ := h
    rw [Memory.read, if_neg (by omega)]
    exact ih hrest (by omega)

/-- The canonical form from `lo` on is one from any lower address on. -/
theorem Memory.wfFrom_mono {m : List Host.Cell} {lo lo' : Nat} (h : Memory.wfFrom lo m = true)
    (hle : lo' ≤ lo) : Memory.wfFrom lo' m = true := by
  cases m with
  | nil => rfl
  | cons c rest =>
    simp only [Memory.wfFrom, Bool.and_eq_true, decide_eq_true_eq] at h ⊢
    exact ⟨⟨⟨by omega, h.1.1.2⟩, h.1.2⟩, h.2⟩

theorem Memory.wfFrom_write {m : List Host.Cell} {lo a : Nat} {v : Byte}
    (h : Memory.wfFrom lo m = true) (hlo : lo ≤ a) (ha : a < Config.romDepth) :
    Memory.wfFrom lo (Memory.write m a v) = true := by
  induction m generalizing lo with
  | nil =>
    unfold Memory.write
    split
    · rfl
    · simp_all [Memory.wfFrom]
  | cons c rest ih =>
    obtain ⟨k, b⟩ := c
    have h' := h
    simp only [Memory.wfFrom, Bool.and_eq_true, decide_eq_true_eq] at h'
    obtain ⟨⟨⟨hk, hk32⟩, hb⟩, hrest⟩ := h'
    unfold Memory.write
    split_ifs with h1 h2 h3 h4
    · exact h
    · simp only [Memory.wfFrom, Bool.and_eq_true, decide_eq_true_eq, bne_iff_ne]
      exact ⟨⟨⟨hlo, ha⟩, h2⟩, ⟨⟨by omega, hk32⟩, bne_iff_ne.1 hb⟩, hrest⟩
    · exact Memory.wfFrom_mono hrest (by omega)
    · simp only [Memory.wfFrom, Bool.and_eq_true, decide_eq_true_eq, bne_iff_ne]
      exact ⟨⟨⟨hlo, ha⟩, h4⟩, by rw [h3]; exact hrest⟩
    · simp only [Memory.wfFrom, Bool.and_eq_true, decide_eq_true_eq]
      exact ⟨⟨⟨hk, hk32⟩, hb⟩, ih hrest (by omega)⟩

/-- A store keeps the canonical form. -/
theorem Memory.wf_write {m : List Host.Cell} {a : Nat} {v : Byte} (h : Memory.wf m = true)
    (ha : a < Config.romDepth) : Memory.wf (Memory.write m a v) = true :=
  Memory.wfFrom_write h (Nat.zero_le a) ha

theorem Memory.wf_loadBytes {bs : List Byte} {m : List Host.Cell} {a : Nat}
    (h : Memory.wf m = true) (ha : a + bs.length ≤ Config.romDepth) :
    Memory.wf (Memory.loadBytes m a bs) = true := by
  induction bs generalizing m a with
  | nil => exact h
  | cons b bs ih =>
    simp only [List.length_cons] at ha
    exact ih (Memory.wf_write h (by omega)) (by omega)

/-- A whole program is in the canonical form. -/
theorem Memory.wf_ofProgram (bs : List Byte) : Memory.wf (Memory.ofProgram bs) = true :=
  Memory.wf_loadBytes rfl (by simp)

theorem Memory.read_write_from {m : List Host.Cell} {lo a : Nat} {v : Byte}
    (h : Memory.wfFrom lo m = true) (hlo : lo ≤ a) (a' : Nat) :
    Memory.read (Memory.write m a v) a' = if a' = a then v else Memory.read m a' := by
  induction m generalizing lo with
  | nil =>
    unfold Memory.write
    split_ifs with h1 h2 h2
    · simp [Memory.read, h1, h2]
    · rfl
    · simp [Memory.read, h2]
    · simp [Memory.read, Ne.symm h2]
  | cons c rest ih =>
    obtain ⟨k, b⟩ := c
    simp only [Memory.wfFrom, Bool.and_eq_true, decide_eq_true_eq] at h
    obtain ⟨⟨⟨hk, hk32⟩, hb⟩, hrest⟩ := h
    unfold Memory.write
    by_cases h1 : a < k
    · have hab : Memory.read ((k, b) :: rest) a = Memory.unlisted a := by
        rw [Memory.read, if_neg (by omega)]
        exact Memory.read_below hrest (by omega)
      rw [if_pos h1]
      by_cases h2 : v = Memory.unlisted a
      · rw [if_pos h2]
        split
        · next e => rw [e, hab, h2]
        · rfl
      · rw [if_neg h2]
        rw [Memory.read]
        by_cases e : a = a'
        · rw [if_pos e, if_pos e.symm]
        · rw [if_neg e, if_neg (Ne.symm e)]
    · rw [if_neg h1]
      by_cases h3 : a = k
      · subst h3
        rw [if_pos rfl]
        by_cases h4 : v = Memory.unlisted a
        · rw [if_pos h4]
          by_cases e : a' = a
          · rw [if_pos e, e, Memory.read_below hrest (by omega), h4]
          · rw [if_neg e, Memory.read, if_neg (Ne.symm e)]
        · rw [if_neg h4]
          by_cases e : a' = a
          · simp [Memory.read, e]
          · rw [if_neg e, Memory.read, Memory.read, if_neg (Ne.symm e), if_neg (Ne.symm e)]
      · rw [if_neg h3, Memory.read, Memory.read, ih hrest (by omega)]
        by_cases e : k = a'
        · rw [if_pos e, if_pos e, if_neg (by omega)]
        · rw [if_neg e, if_neg e]

/-- A store sets the byte it names and leaves every other byte alone. -/
theorem Memory.read_write {m : List Host.Cell} {a : Nat} {v : Byte} (h : Memory.wf m = true)
    (a' : Nat) :
    Memory.read (Memory.write m a v) a' = if a' = a then v else Memory.read m a' :=
  Memory.read_write_from h (Nat.zero_le a) a'

/-- A store is read back, in any list of cells. -/
theorem Memory.read_write_same (m : List Host.Cell) (a : Nat) (v : Byte)
    (h : Memory.wf m = true) : Memory.read (Memory.write m a v) a = v := by
  rw [Memory.read_write h, if_pos rfl]

end Sys2Proof.Machine
end

