-- ==== Sys2Proof/Laws/PerInstr.lean ====
section
/-! SUPPORT. A statement for all instructions, one lemma per constructor of `Instr`: an instruction's
encoding has the length of its format (30_encoding.md R70). -/

namespace Sys2Proof.Laws.EncodedLength

/-- A frame is 4 bytes, a micro-operation one (R70). -/
def Statement (i : Instr) : Prop :=
  (encode i).length = match i.format with
    | .frame32 => 4
    | .uop8 => 1

theorem rd (tc14 : BitVec 14) (b17 : Bool) (cj12 : BitVec 12) (b3 scv scg oc : Bool) :
    Statement (.rd tc14 b17 cj12 b3 scv scg oc) := rfl
theorem fltOc (tc14 : BitVec 14) (b17 : Bool) (cj12 : BitVec 12) (b3 scv scg : Bool) :
    Statement (.fltOc tc14 b17 cj12 b3 scv scg) := rfl
theorem fltScg (tc14 : BitVec 14) (b17 : Bool) (cj12 : BitVec 12) (b3 scv : Bool) :
    Statement (.fltScg tc14 b17 cj12 b3 scv) := rfl
theorem fltScv (tc14 : BitVec 14) (b17 : Bool) (cj12 : BitVec 12) (b3 : Bool) :
    Statement (.fltScv tc14 b17 cj12 b3) := rfl
theorem fltUnk (tc14 : BitVec 14) (b17 : Bool) (cj12 : BitVec 12) (b3 : Bool) :
    Statement (.fltUnk tc14 b17 cj12 b3) := rfl
theorem setr (ch : Nat) (en : Bool) : Statement (.setr ch en) := rfl
theorem wait : Statement .wait := rfl
theorem acq : Statement .acq := rfl
theorem dec : Statement .dec := rfl
theorem rpt (lbl : Nat) : Statement (.rpt lbl) := rfl
theorem loop (t : Nat) : Statement (.loop t) := rfl
theorem halt : Statement .halt := rfl

end Sys2Proof.Laws.EncodedLength
end

