-- ==== Sys2Proof/Laws/Step.lean ====
section
/-! SUPPORT. What one step can do, said once, and the induction over a run, packaged once. -/

namespace Sys2Proof.Machine

/-- A step to a next state: the machine is `Running`, and the decoded micro-operation ran or the word was
reserved. -/
theorem step_cases {s t : State} (h : step s = .next t) :
    s.RUN = .running ∧
    ((∃ i, decodeUop s.fetch = .ok i ∧ exec i s = .next t) ∨
      (∃ e, decodeUop s.fetch = .error e ∧ t = s.takeFault .reservedUop)) := by
  unfold step at h
  cases hr : s.RUN with
  | halted => rw [hr] at h; simp at h
  | faulted => rw [hr] at h; simp at h
  | running =>
    rw [hr] at h
    refine ⟨rfl, ?_⟩
    cases hd : decodeUop s.fetch with
    | ok i => exact .inl ⟨i, rfl, by simpa [decode, hd] using h⟩
    | error e => exact .inr ⟨e, rfl, by simpa [decode, hd] using h.symm⟩

/-- The host's run after a step to a next state. -/
theorem core_run_next (M : Host.Core) {k : Nat} {s u : M.State} (h : M.step s = .next u) :
    M.run (k + 1) s = M.run k u := by
  rw [Host.Core.run, h]

/-- The host's run at a fault. -/
theorem core_run_fault (M : Host.Core) {k : Nat} {s : M.State} {r : M.Fault}
    (h : M.step s = .fault r) : M.run (k + 1) s = .fault r := by
  rw [Host.Core.run, h]

/-- The host's run at a refusal. -/
theorem core_run_refused (M : Host.Core) {k : Nat} {s : M.State} {r : M.Refusal}
    (h : M.step s = .refused r) : M.run (k + 1) s = .refused r := by
  rw [Host.Core.run, h]

/-- The model's run is the host's run of the machine. -/
theorem run_eq_core (k : Nat) (s : State) : run k s = Sys2Proof.core.run k s := by
  induction k generalizing s with
  | zero => rfl
  | succ k ih =>
    rw [run]
    cases hst : step s with
    | next u => exact (ih u).trans (core_run_next Sys2Proof.core hst).symm
    | fault r => exact (core_run_fault Sys2Proof.core hst).symm
    | refused r => exact (core_run_refused Sys2Proof.core hst).symm

/-- A property that reset has and every step keeps holds after every number of steps. -/
theorem run_keeps {P : State → Prop} (hstep : ∀ s t, P s → step s = .next t → P t) :
    ∀ (k : Nat) (s t : State), P s → run k s = .next t → P t := by
  intro k
  induction k with
  | zero =>
    intro s t hs h
    cases h
    exact hs
  | succ k ih =>
    intro s t hs h
    rw [run] at h
    cases hst : step s with
    | next u =>
      rw [hst] at h
      exact ih u t (hstep s u hs hst) h
    | fault r => rw [hst] at h; cases h
    | refused r => rw [hst] at h; cases h

/-- What a micro-operation that a ROM word decodes to can be. -/
theorem decodeUop_cases {w : Byte} {i : Instr} (h : decodeUop w = .ok i) :
    (∃ ch en, i = .setr ch en) ∨ i = .wait ∨ i = .acq ∨ i = .dec ∨ (∃ lbl, i = .rpt lbl) ∨
      (∃ a, i = .loop a) ∨ i = .halt := by
  unfold decodeUop at h
  split at h
  · next o _ =>
    cases h
    cases o <;> simp [uopInstr]
  · cases h

/-- A rejected ROM word is rejected as reserved. -/
theorem decodeUop_error {w : Byte} {e : DecodeError} (h : decodeUop w = .error e) :
    e = .reservedUop w := by
  unfold decodeUop at h
  split at h <;> cases h
  rfl

end Sys2Proof.Machine
end

