-- ==== Sys2Proof/Tests/Slice0.lean ====
section
/-! SUPPORT. The model's own tests: the ill-formed terms, words written out from the encodings, one or
two steps of each instruction on a small state, and for every statement with hypotheses a concrete
input that meets them. Expected values come from spec/30_encoding.md, spec/95_test_vectors.md and the
examples of the rules named. -/

namespace Sys2Proof.Machine.Tests

/-! ### Helpers -/

/-- A small running state at address 3: pin services that answer `Ok`, the worked frame on the bus. -/
def base : State where
  FRAME := 0#32
  TC := 0#16
  CJ := 0#16
  FS := .none
  FV := false
  DV := false
  RV := false
  ERR := .none
  upc := 3#5
  RUN := .running
  FLTR := .none
  RS1 := .unknown
  RS2 := .off
  RS4 := .unknown
  inp :=
    { PROG := []
      SOCKET := ⟨7⟩
      SETTLE := 1
      oracle :=
        { lookups := [.ok ⟨11⟩, .err]
          pins := [.ok, .ok, .ok, .err]
          transfers := [.ok [0x07#8, 0xC8#8, 0x0F#8, 0x80#8], .err, .ok [0x07#8]]
          stops := [false, true] } }
  calls := Calls.zero
  TRACE := []

/-- `base` in a phase with an error. -/
def errored : State := { base with ERR := .busTransferFailure }

/-- `base` with the worked frame captured (95_test_vectors.md V1). -/
def captured : State := { base with FRAME := 0x07C80F80#32, FV := true }

/-- `base` after the decode of the worked frame. -/
def decoded : State :=
  { captured with TC := 0x01F2#16, CJ := 0x00F8#16, FS := .none, DV := true, RV := true }

/-- `base` after the decode of frame FD29, a short to ground. -/
def faulty : State :=
  { base with
    FRAME := 0x0641C902#32, FV := true
    TC := 0x0190#16, CJ := 0xFC90#16, FS := .shortToGround, DV := true }

/-- `base` with the pin answers given. -/
def withPins (l : List LookupAnswer) (p : List PinAnswer) : State :=
  { base with inp := { base.inp with oracle := { base.inp.oracle with lookups := l, pins := p } } }

/-- Inputs whose first four service calls of each kind answer `Ok`, with the worked frame on the bus. -/
def goodInputs : Inputs :=
  { base.inp with
    oracle :=
      { lookups := [.ok ⟨2⟩, .ok ⟨4⟩, .ok ⟨1⟩]
        pins := [.ok, .ok, .ok, .ok, .ok, .ok, .ok, .ok, .ok]
        transfers := [.ok [0x07#8, 0xC8#8, 0x0F#8, 0x80#8]]
        stops := [] } }

/-- `base` with the bus answer given. -/
def withBus (b : BusAnswer) : State :=
  { base with inp := { base.inp with oracle := { base.inp.oracle with transfers := [b] } } }

/-- `base` with the word given at its address. -/
def withWord (w : Byte) : State :=
  { base with inp := { base.inp with PROG := Memory.write [] 3 w } }

/-- What a function reads from the next state, if there is one. -/
def seen {α : Type} (f : State → α) : Result → Option α
  | .next t => some (f t)
  | .fault _ => none
  | .refused _ => none

/-! ### Well-formedness refuses each ill-formed term -/

theorem test_wf_channel : (Instr.setr 8 true).wf = false ∧ (Instr.setr 7 true).wf = true := by decide
theorem test_wf_label : (Instr.rpt 8).wf = false ∧ (Instr.rpt 7).wf = true := by decide
theorem test_wf_target : (Instr.loop 32).wf = false ∧ (Instr.loop 31).wf = true := by decide

/-! ### Words written out from the encodings (30_encoding.md R71, R73) -/

theorem test_decode_rd :
    decode .frame32 [0b00000111#8, 0b11001000#8, 0b00001111#8, 0b10000000#8] =
      .ok (.rd 0b00000111110010#14 false 0b000011111000#12 false false false false) := by decide
theorem test_decode_rd_all_bits :
    decode .frame32 [0b11111111#8, 0b11111110#8, 0b11111111#8, 0b11111111#8] =
      .ok (.rd 0b11111111111111#14 true 0b111111111111#12 true true true true) := by decide
theorem test_decode_fltOc :
    decode .frame32 [0b00000000#8, 0b00000001#8, 0b00000000#8, 0b00000101#8] =
      .ok (.fltOc 0#14 false 0#12 false true false) := by decide
theorem test_decode_fltScg :
    decode .frame32 [0b00000110#8, 0b01000001#8, 0b11001001#8, 0b00000010#8] =
      .ok (.fltScg 0b00000110010000#14 false 0b110010010000#12 false false) := by decide
theorem test_decode_fltScv :
    decode .frame32 [0b10000000#8, 0b00000011#8, 0b10000000#8, 0b00001100#8] =
      .ok (.fltScv 0b10000000000000#14 true 0b100000000000#12 true) := by decide
theorem test_decode_fltUnk :
    decode .frame32 [0b00000000#8, 0b00000101#8, 0b00000000#8, 0b00011000#8] =
      .ok (.fltUnk 0b00000000000001#14 false 0b000000000001#12 true) := by decide
theorem test_decode_setr : decode .uop8 [0b00110110#8] = .ok (.setr 5 true) := by decide
theorem test_decode_wait : decode .uop8 [0b01000000#8] = .ok .wait := by decide
theorem test_decode_acq : decode .uop8 [0b01100000#8] = .ok .acq := by decide
theorem test_decode_dec : decode .uop8 [0b10000000#8] = .ok .dec := by decide
theorem test_decode_rpt : decode .uop8 [0b10111000#8] = .ok (.rpt 6) := by decide
theorem test_decode_loop : decode .uop8 [0b11010011#8] = .ok (.loop 19) := by decide
theorem test_decode_halt : decode .uop8 [0b11100000#8] = .ok .halt := by decide
/-- R86: a word of each reserved kind. -/
theorem test_decode_reserved :
    ∀ w ∈ [0x00#8, 0x1F#8, 0x21#8, 0x3F#8, 0x41#8, 0x7F#8, 0x90#8, 0xFF#8, 0xA1#8, 0xBE#8],
      decode .uop8 [w] = .error (.reservedUop w) := by decide
theorem test_decode_lengths :
    decode .uop8 [] = .error (.wrongLength .uop8 0) ∧
    decode .frame32 [0#8, 0#8, 0#8] = .error (.wrongLength .frame32 3) := by decide
/-- Table words: bit 0 of a frame's number is the last bit of its last byte. -/
theorem test_decodeTableWord :
    decodeTableWord 8 0xE0 = some .halt ∧ decodeTableWord 8 0x00 = none ∧
    decodeTableWord 32 0x00010002 = some (.fltScg 0#14 false 0#12 false false) := by decide

/-! ### One step of each instruction -/

/-- FD10: both fields negative with a fraction. -/
theorem test_rd_negative :
    seen (fun t => (t.TC, t.CJ, t.FS, t.DV, t.RV)) (exec (decodeFrame 0xFE0CFE70#32) base) =
      some (0xFF83#16, 0xFFE7#16, .none, true, true) := by decide
/-- FD34: open circuit with both ignored bits set. -/
theorem test_fltOc :
    seen (fun t => (t.TC, t.CJ, t.FS, t.DV, t.RV)) (exec (decodeFrame 0x00030009#32) decoded) =
      some (0#16, 0#16, .openCircuit, true, false) := by decide
/-- FD29: short to ground keeps the temperatures. -/
theorem test_fltScg :
    seen (fun t => (t.TC, t.CJ, t.FS, t.DV, t.RV)) (exec (decodeFrame 0x0641C902#32) base) =
      some (0x0190#16, 0xFC90#16, .shortToGround, true, false) := by decide
/-- FD30. -/
theorem test_fltScv :
    seen (fun t => (t.FS, t.RV, t.upc)) (exec (decodeFrame 0x00010004#32) base) =
      some (.shortToVcc, false, 4#5) := by decide
/-- FD32: bit 3 is no cause bit. -/
theorem test_fltUnk :
    seen (fun t => (t.FS, t.RV, t.upc)) (exec (decodeFrame 0x00010008#32) base) =
      some (.unknownFault, false, 4#5) := by decide
/-- R136's example. -/
theorem test_setr_enable :
    seen (fun t => (t.RS1, t.ERR, t.upc, t.TRACE)) (exec (.setr 1 true) base) =
      some (.on, .none, 4#5, [.lookupPin ⟨7⟩ .pwm (.ok ⟨11⟩), .initPin ⟨11⟩ .ok,
        .setDirection ⟨11⟩ .output .ok, .setValue ⟨11⟩ true .ok]) := by decide
/-- R136: a failed `setDirection` ends the operation; under `skip` the first error is kept. -/
theorem test_setr_pin_failure :
    seen (fun t => (t.RS2, t.ERR, t.upc, t.TRACE.length))
      (exec (.setr 2 false) { withPins [.ok ⟨4⟩] [.ok, .err] with ERR := .reservedChannel }) =
      some (.unknown, .reservedChannel, 4#5, 3) := by decide
/-- R152's example. -/
theorem test_wait :
    seen (fun t => (t.upc, t.TRACE)) (exec .wait base) = some (4#5, [.delay 1]) := by decide
/-- R153's example: the bytes land most significant first. -/
theorem test_acq :
    seen (fun t => (t.FRAME, t.FV, t.DV, t.RV)) (exec .acq decoded) =
      some (0x07C80F80#32, true, false, false) := by decide
/-- R153: an answer of another length. -/
theorem test_acq_short :
    seen (fun t => (t.FV, t.DV, t.ERR, t.upc)) (exec .acq { withBus (.ok [1#8]) with FV := true }) =
      some (false, false, .busTransferFailure, 4#5) := by decide
/-- R154's example. -/
theorem test_dec :
    seen (fun t => (t.TC, t.CJ, t.FS, t.DV, t.RV, t.FV)) (exec .dec captured) =
      some (0x01F2#16, 0x00F8#16, .none, true, true, true) := by decide
/-- R154: no captured frame. -/
theorem test_dec_fault :
    seen (fun t => (t.RUN, t.FLTR, t.upc)) (exec .dec base) =
      some (.faulted, .frameNotValid, 3#5) := by decide
/-- R155's example. -/
theorem test_rpt :
    seen (fun t => (t.TRACE, t.FV, t.DV, t.RV)) (exec (.rpt 1) decoded) =
      some ([.report 1#3 (.reading 0x01F2#16 0x00F8#16)], false, false, false) ∧
    packReport 1#3 (.reading 0x01F2#16 0x00F8#16) = 0x2001F200F8#40 := by decide
/-- R155: an error takes precedence over a decode. -/
theorem test_rpt_error :
    seen (fun t => (t.TRACE, t.ERR)) (exec (.rpt 4) { decoded with ERR := .gpioFailure }) =
      some ([.report 4#3 (.error .gpioFailure)], .none) := by decide
/-- R156's example, `STOP` 0. -/
theorem test_loop_taken :
    seen (fun t => (t.upc, t.ERR)) (exec (.loop 31) errored) =
      some (31#5, .busTransferFailure) := by decide
/-- R156 with `STOP` 1 at address 31: the counter wraps (R25). -/
theorem test_loop_stopped :
    seen (fun t => t.upc) (exec (.loop 5)
      { base with upc := 31#5, calls := { Calls.zero with stops := 1 } }) = some 0#5 := by decide
/-- R157's example. -/
theorem test_halt :
    seen (fun t => (t.RUN, t.upc, t.ERR)) (exec .halt { errored with upc := 20#5 }) =
      some (.halted, 20#5, .busTransferFailure) := by decide
/-- R86: a reserved word faults even under `skip`. -/
theorem test_step_reserved :
    seen (fun t => (t.RUN, t.FLTR, t.upc)) (step { withWord 0x21#8 with ERR := .gpioFailure }) =
      some (.faulted, .reservedUop, 3#5) := by decide
/-- R199 row "status", with the codes of R32, R34 to R36. -/
theorem test_host_status :
    State.hostStatus { base with RUN := .faulted, FLTR := .nothingToReport, ERR := .pinLookupFailed } =
      { RUN := 2#2, FLTR := 3#2, ERR := 4#3, upc := 3#5, RS1 := 2#2, RS2 := 0#2, RS4 := 2#2 } := by
  decide
/-- The host's store of a ROM word, and back to the default. -/
theorem test_rom :
    Memory.write [] 3 0xE0#8 = [(3, 0xE0#8)] ∧ Memory.write [(3, 0xE0#8)] 3 0x40#8 = [] ∧
    Memory.read [(3, 0xE0#8)] 3 = 0xE0#8 ∧ Memory.read [] 31 = 0x00#8 := by decide
/-- R88: the text of a line. -/
theorem test_asm_text :
    asmText (.op (.setr 2 false)) = "SETR 2, 0" ∧ asmText (.byte 0x1F#8) = ".byte 0x1F" := by decide

/-! ### Witnesses: concrete inputs that meet the hypotheses of the statements -/

theorem witness_ResetPutsEveryRegisterAtItsResetValue :
    State.reset = State.resetWith Inputs.default Calls.zero := rfl
theorem witness_FirstStepAfterResetRunsProgZero : base.inp.PROG = [] ∧ Inputs.default.PROG = [] :=
  ⟨rfl, rfl⟩
/-- A frame for each clause. -/
theorem witness_FaultStatusPriority :
    (0xFFFEFFFF#32).getLsbD 16 = false ∧
    ((0x00010007#32).getLsbD 16 = true ∧ (0x00010007#32).getLsbD 0 = true) ∧
    ((0x00010006#32).getLsbD 16 = true ∧ (0x00010006#32).getLsbD 0 = false ∧
      (0x00010006#32).getLsbD 1 = true) ∧
    ((0x00010004#32).getLsbD 16 = true ∧ (0x00010004#32).getLsbD 0 = false ∧
      (0x00010004#32).getLsbD 1 = false ∧ (0x00010004#32).getLsbD 2 = true) ∧
    ((0x00010000#32).getLsbD 16 = true ∧ (0x00010000#32).getLsbD 0 = false ∧
      (0x00010000#32).getLsbD 1 = false ∧ (0x00010000#32).getLsbD 2 = false) := by decide
/-- FD1 and FD20 differ in exactly the bits 17 and 3. -/
theorem witness_FrameBits17And3AreIgnored :
    (0x07C80F80#32 ≠ 0x07CA0F88#32) ∧ ∀ k : Nat, k ≠ 17 → k ≠ 3 →
      (0x07C80F80#32).getLsbD k = (0x07CA0F88#32).getLsbD k := by
  refine ⟨by decide, fun k h17 h3 => ?_⟩
  rcases Nat.lt_or_ge k 32 with h | h
  · have all : ∀ j : Fin 32, j.val ≠ 17 → j.val ≠ 3 →
        (0x07C80F80#32).getLsbD j = (0x07CA0F88#32).getLsbD j := by decide
    exact all ⟨k, h⟩ h17 h3
  · rw [BitVec.getLsbD_of_ge _ _ h, BitVec.getLsbD_of_ge _ _ h]
/-- FD1 and FD21 differ in the cause bits only. -/
theorem witness_CauseBitsIgnoredWithFlagClear :
    (0x07C80F80#32).getLsbD 16 = false ∧ ∀ k : Nat, 3 ≤ k →
      (0x07C80F80#32).getLsbD k = (0x07C80F87#32).getLsbD k := by
  refine ⟨by decide, fun k h3 => ?_⟩
  rcases Nat.lt_or_ge k 32 with h | h
  · have all : ∀ j : Fin 32, 3 ≤ j.val →
        (0x07C80F80#32).getLsbD j = (0x07C80F87#32).getLsbD j := by decide
    exact all ⟨k, h⟩ h3
  · rw [BitVec.getLsbD_of_ge _ _ h, BitVec.getLsbD_of_ge _ _ h]
/-- FD33. -/
theorem witness_InconsistentFrameIsUnknownFault :
    (0x00030008#32).getLsbD 16 = true ∧ (0x00030008#32).getLsbD 0 = false ∧
    (0x00030008#32).getLsbD 1 = false ∧ (0x00030008#32).getLsbD 2 = false := by decide
theorem witness_ReadingOnlyWithoutFault :
    fsOf 0x80008000#32 = .none ∧ fsOf 0xFFFFFFFF#32 ≠ .none ∧ fsOf 0x00010000#32 ≠ .none := by decide
theorem witness_FractionalComponents : (0xFFFCFFF0#32).getLsbD 16 = false := by decide
theorem witness_PrintedLiteralsAgainstTheDecode :
    (0xFFFC0000#32).getLsbD 31 = true ∧ (0x7FFC7FF0#32).getLsbD 31 = false := by decide
/-- FD6, FD7: the boundary values are reached. -/
theorem witness_TemperatureMapsAreBijections :
    (decodeTriple 0x80008000#32).tc.toInt = -8192 ∧ (decodeTriple 0x7FFC7FF0#32).tc.toInt = 8191 ∧
    (decodeTriple 0x80008000#32).cj.toInt = -2048 ∧ (decodeTriple 0x7FFC7FF0#32).cj.toInt = 2047 ∧
    (decodeTriple 0x07C80F80#32).tc.toInt = (decodeTriple 0x07CA0F88#32).tc.toInt ∧
    (decodeTriple 0x07C80F80#32).cj.toInt = (decodeTriple 0x07CA0F88#32).cj.toInt := by decide
theorem witness_DecodeOfEncodeIsTheInstruction :
    (Instr.setr 7 true).wf = true ∧ (Instr.rpt 7).wf = true ∧ (Instr.loop 31).wf = true ∧
    (Instr.fltUnk 0x3FFF#14 true 0xFFF#12 true).wf = true := by decide
theorem witness_EncodeOfDecodeIsTheWord : decode .uop8 [0xDF#8] = .ok (.loop 31) := by decide
theorem witness_ReservedWordsFault :
    (withWord 0x00#8).RUN = .running ∧
    decodeUop (withWord 0x00#8).fetch = .error (.reservedUop (withWord 0x00#8).fetch) := by decide
theorem witness_PlacedTableWordIsRunNext :
    Memory.wf base.inp.PROG = true ∧ decodeTableWord 8 0xBC = some (.rpt 7) ∧
    decodeTableWord 32 0xFFFFFFFF =
      some (.fltOc 0x3FFF#14 true 0xFFF#12 true true true) := by decide
/-- A state for each clause. -/
theorem witness_StepRunsTheDecodedMicroOperation :
    (base.RUN = .running ∧ decode .uop8 [base.romRead base.upc] = .ok .wait) ∧
    ((withWord 0xFF#8).RUN = .running ∧
      decode .uop8 [(withWord 0xFF#8).romRead (withWord 0xFF#8).upc] =
        .error (.reservedUop 0xFF#8)) ∧
    State.RUN { base with RUN := .halted } ≠ .running := by decide
theorem witness_DecRunsTheCapturedFrame : captured.ERR = .none ∧ captured.FV = true := by decide
theorem witness_WaitResult : errored.ERR ≠ .none ∧ base.ERR = .none := by decide
/-- A state for each clause. -/
theorem witness_AcqResult :
    errored.ERR ≠ .none ∧
    (base.ERR = .none ∧ base.busAnswer = .ok [0x07#8, 0xC8#8, 0x0F#8, 0x80#8]) ∧
    (∀ bytes ∈ [[], [1#8, 2#8, 3#8], [1#8, 2#8, 3#8, 4#8, 5#8]],
      (withBus (.ok bytes)).ERR = .none ∧ (withBus (.ok bytes)).busAnswer = .ok bytes ∧
      bytes.length ≠ 4) ∧
    ((withBus .err).ERR = .none ∧ (withBus .err).busAnswer = .err) := by decide
theorem witness_DecResult :
    errored.ERR ≠ .none ∧ (base.ERR = .none ∧ base.FV = false) ∧
    (captured.ERR = .none ∧ captured.FV = true) := by decide
theorem witness_LoopResult :
    base.stopLevel = false ∧
    State.stopLevel { base with calls := { Calls.zero with stops := 1 } } = true := by decide
theorem witness_HaltEndsTheRun : ∃ t, exec .halt base = .next t := ⟨_, rfl⟩
/-- An enable, and a disable in a phase with an error. -/
theorem witness_SetrSetsTheRelay :
    roleOf 4 = .ok .analog ∧ base.ERR = .none ∧ base.lookupAnswer = .ok ⟨11⟩ ∧
    base.pinAnswer 0 = .ok ∧ base.pinAnswer 1 = .ok ∧ base.pinAnswer 2 = .ok ∧
    errored.lookupAnswer = .ok ⟨11⟩ := by decide
/-- A state for each clause. -/
theorem witness_SetrStopsAtTheFirstFailingCall :
    roleOf 1 = .ok .pwm ∧ base.ERR = .none ∧
    (withPins [.err] []).lookupAnswer = .err ∧
    ((withPins [.ok ⟨1⟩] [.err]).lookupAnswer = .ok ⟨1⟩ ∧
      (withPins [.ok ⟨1⟩] [.err]).pinAnswer 0 = .err) ∧
    ((withPins [.ok ⟨1⟩] [.ok, .err]).lookupAnswer = .ok ⟨1⟩ ∧
      (withPins [.ok ⟨1⟩] [.ok, .err]).pinAnswer 0 = .ok ∧
      (withPins [.ok ⟨1⟩] [.ok, .err]).pinAnswer 1 = .err) ∧
    ((withPins [.ok ⟨1⟩] [.ok, .ok, .err]).lookupAnswer = .ok ⟨1⟩ ∧
      (withPins [.ok ⟨1⟩] [.ok, .ok, .err]).pinAnswer 0 = .ok ∧
      (withPins [.ok ⟨1⟩] [.ok, .ok, .err]).pinAnswer 1 = .ok ∧
      (withPins [.ok ⟨1⟩] [.ok, .ok, .err]).pinAnswer 2 = .err) := by decide
theorem witness_ReservedAndOutOfRangeChannels : base.ERR = .none ∧ errored.ERR ≠ .none := by decide
/-- A success, a failure of the lookup, a suppressed enable and a reserved channel. -/
theorem witness_ShadowRelayStateUnderSetr :
    (∃ t, exec (.setr 1 true) base = .next t) ∧
    (∃ t, exec (.setr 1 true) errored = .next t) ∧
    (∃ t, exec (.setr 3 true) base = .next t) ∧ roleOf 3 = .error .reservedChannel ∧
    (∃ t, exec (.setr 2 false) (withPins [.err] []) = .next t) ∧
    (withPins [.err] []).lookupAnswer = .err ∧
    (base.lookupAnswer ≠ .err ∧ base.pinAnswer 0 = .ok ∧ base.pinAnswer 1 = .ok ∧
      base.pinAnswer 2 = .ok) :=
  ⟨⟨_, rfl⟩, ⟨_, rfl⟩, ⟨_, rfl⟩, rfl, ⟨_, rfl⟩, rfl, by decide⟩
theorem witness_RedundantSetrSucceeds :
    base.PinServiceAnswersOk ∧ base.ERR = .none ∧ base.relay 2 = some .off :=
  ⟨⟨⟨⟨11⟩, rfl⟩, rfl, rfl, rfl⟩, rfl, rfl⟩
theorem witness_SkippedOperationsOnlyAdvance : errored.skip = true := by decide
/-- A second error under `skip`, and the report that clears. -/
theorem witness_FirstErrorStaysUntilReport :
    (∃ t, exec (.setr 3 false) errored = .next t) ∧ errored.ERR ≠ .none ∧
    (∃ t, exec (.rpt 2) errored = .next t ∧ t.RUN = errored.RUN) :=
  ⟨⟨_, rfl⟩, by decide, ⟨_, rfl, rfl⟩⟩
theorem witness_RegistersChangeOnlyInTheirWriters :
    (∃ t, exec .acq base = .next t) ∧ (∃ t, exec (.rpt 7) faulty = .next t) ∧
    (∃ t, exec (decodeFrame 0xFFFFFFFF#32) base = .next t) := ⟨⟨_, rfl⟩, ⟨_, rfl⟩, ⟨_, rfl⟩⟩
/-- A faulting, a looping and an ordinary operation. -/
theorem witness_WhereTheProgramCounterGoes :
    (∃ t, step (withWord 0x00#8) = .next t ∧ t.RUN ≠ .running) ∧
    (∃ t, step (withWord 0xDF#8) = .next t ∧ t.RUN = .running ∧
      decodeUop (withWord 0xDF#8).fetch = .ok (.loop 31) ∧ (withWord 0xDF#8).stopLevel = false) ∧
    (∃ t, step { base with upc := 31#5, inp := { base.inp with PROG := [(31, 0x40#8)] } } = .next t ∧
      t.RUN = .running ∧ t.upc = 0#5) ∧
    base.RUN = .running ∧ (∃ t, exec .dec base = .next t ∧ t.RUN = .faulted) ∧
    (∃ t, exec (.loop 31) base = .next t ∧ base.stopLevel = false) ∧
    (∃ t, exec .wait base = .next t ∧ t.RUN ≠ .faulted) :=
  ⟨⟨_, rfl, by decide⟩, ⟨_, rfl, rfl, rfl, rfl⟩, ⟨_, rfl, rfl, rfl⟩, rfl, ⟨_, rfl, rfl⟩,
    ⟨_, rfl, rfl⟩, ⟨_, rfl, by decide⟩⟩
/-- Each of the three faults, and a step without a fault. -/
theorem witness_SequencerFaultsHaveThreeCauses :
    (∃ t, step (withWord 0x00#8) = .next t ∧ t.RUN = .faulted) ∧
    (∃ t, step (withWord 0x80#8) = .next t ∧ t.RUN = .faulted) ∧
    (∃ t, step (withWord 0xA4#8) = .next t ∧ t.RUN = .faulted) ∧
    (∃ t, step base = .next t ∧ t.RUN ≠ .faulted) :=
  ⟨⟨_, rfl, rfl⟩, ⟨_, rfl, rfl⟩, ⟨_, rfl, rfl⟩, ⟨_, rfl, by decide⟩⟩
theorem witness_RunStateTransitions :
    (∃ t, step (withWord 0xE0#8) = .next t ∧ t.RUN = .halted) ∧
    State.RUN { base with RUN := .faulted } = .faulted := ⟨⟨_, rfl, rfl⟩, rfl⟩
theorem witness_ReceiveBufferIsBigEndian :
    base.ERR = .none ∧ base.busAnswer = .ok [0x07#8, 0xC8#8, 0x0F#8, 0x80#8] ∧
    ∃ t, exec .acq base = .next t := ⟨rfl, rfl, ⟨_, rfl⟩⟩
theorem decoded_inv : decoded.Inv :=
  ⟨by decide, by decide, by decide, by decide, by decide, by decide, by decide⟩
theorem faulty_inv : faulty.Inv :=
  ⟨by decide, by decide, by decide, by decide, by decide, by decide, by decide⟩
theorem errored_inv : errored.Inv :=
  ⟨by decide, by decide, by decide, by decide, by decide, by decide, by decide⟩
theorem witness_EveryStepKeepsTheStateInvariants :
    decoded.Inv ∧ faulty.Inv ∧ errored.Inv ∧ ∃ t, step decoded = .next t :=
  ⟨decoded_inv, faulty_inv, errored_inv, ⟨_, rfl⟩⟩
theorem witness_ResetHasTheStateInvariants : Memory.wf (withWord 0xE0#8).inp.PROG = true := by decide
theorem witness_ReachableStatesHaveTheStateInvariants :
    Memory.wf base.inp.PROG = true ∧
    ∃ t, run 2 (State.resetWith base.inp Calls.zero) = .next t := ⟨rfl, ⟨_, rfl⟩⟩
theorem witness_RptResult :
    (errored.ERR ≠ .none) ∧ (decoded.ERR = .none ∧ decoded.DV = true ∧ decoded.RV = true) ∧
    (faulty.ERR = .none ∧ faulty.DV = true ∧ faulty.RV = false) ∧
    (base.ERR = .none ∧ base.DV = false) ∧
    (faulty.Inv ∧ faulty.reportRecord = some (.sensorFault .shortToGround)) ∧
    (errored.Inv ∧ errored.reportRecord = some (.error .busTransferFailure)) ∧
    (∃ t, exec (.rpt 7) decoded = .next t ∧ t.RUN = decoded.RUN ∧ decoded.RUN = .running) ∧
    (∃ t, step (withWord 0x60#8) = .next t ∧ (withWord 0x60#8).FV = false ∧ t.FV = true) ∧
    (base.FV = false ∧ base.ERR = .none) :=
  ⟨by decide, by decide, by decide, by decide, ⟨faulty_inv, rfl⟩, ⟨errored_inv, rfl⟩,
    ⟨_, rfl, rfl, rfl⟩, ⟨_, rfl, rfl, rfl⟩, by decide⟩
theorem witness_ReportedReadingIsTheDecodeOfTheFrame :
    decoded.Inv ∧ ∃ t, exec (.rpt 1) decoded = .next t ∧
      t.TRACE = decoded.TRACE ++ [.report 1#3 (.reading 0x01F2#16 0x00F8#16)] :=
  ⟨decoded_inv, ⟨_, rfl, rfl⟩⟩
theorem witness_ReportedCodesAreInRange :
    (faulty.Inv ∧ ∃ t, exec (.rpt 2) faulty = .next t ∧
      t.TRACE = faulty.TRACE ++ [.report 2#3 (.sensorFault .shortToGround)]) ∧
    (errored.Inv ∧ ∃ t, exec (.rpt 0) errored = .next t ∧
      t.TRACE = errored.TRACE ++ [.report 0#3 (.error .busTransferFailure)]) :=
  ⟨⟨faulty_inv, ⟨_, rfl, rfl⟩⟩, ⟨errored_inv, ⟨_, rfl, rfl⟩⟩⟩
/-- Address 3 of the canonical program, channel 1 `On`, and its next step. -/
theorem witness_EveryStepKeepsTheCanonicalInvariant :
    State.CanonicalInv { base with RS1 := .on } ∧ ∃ t, step { base with RS1 := .on } = .next t :=
  ⟨⟨rfl, by decide, by decide, by decide, by decide, by decide, by decide, by decide, by decide,
    by decide, by decide, by decide⟩, ⟨_, rfl⟩⟩
/-- From reset with the default ROM, one step: channel 2 is `Off`. -/
theorem witness_NeverTwoRelaysOn :
    base.inp.PROG = [] ∧ ∃ t, run 1 (State.resetWith base.inp Calls.zero) = .next t ∧
      t.RS2 = .off := ⟨rfl, ⟨_, rfl, rfl⟩⟩
theorem witness_DefaultRomNeverFaults : Inputs.default.PROG = [] := rfl
/-- From reset with the default ROM, five steps: the trace ends in the first transfer. -/
theorem witness_DefaultRomSettlesBeforeEveryTransfer :
    goodInputs.PROG = [] ∧ ∃ t, run 5 (State.resetWith goodInputs Calls.zero) = .next t ∧
      t.TRACE.getLast? = some (.transfer none 4 (.ok [0x07#8, 0xC8#8, 0x0F#8, 0x80#8])) :=
  ⟨rfl, ⟨_, rfl, rfl⟩⟩

end Sys2Proof.Machine.Tests
end

section
/-! SUPPORT. The invariants of R41: each shared operation keeps them, so every step and every run
does. -/

namespace Sys2Proof.Machine

variable {s t : State}

/-- R41 (c) holds of every value that the two registers can take. -/
theorem statusCodes_le (fs : FaultStatus) (e : ErrCode) :
    (fsCode fs).toNat ≤ 4 ∧ (errCode e).toNat ≤ 5 :=
  ⟨by cases fs <;> decide, by cases e <;> decide⟩

theorem State.resetWith_inv (inp : Inputs) (calls : Calls) (h : Memory.wf inp.PROG = true) :
    (State.resetWith inp calls).Inv where
  rv := by simp [State.resetWith]
  dvFrame := by simp [State.resetWith]
  dvDecode := by simp [State.resetWith]
  codes := statusCodes_le _ _
  busError := by simp [State.resetWith]
  faultReason := by simp [State.resetWith]
  rom := h

/-! ### The operations that write no register of the invariants -/

theorem State.Inv.advance (h : s.Inv) : s.advance.Inv := { h with }

theorem State.Inv.jump (h : s.Inv) (a : RomAddr) : (s.jump a).Inv := { h with }

theorem State.Inv.emit (h : s.Inv) (e : Event) : (s.emit e).Inv := { h with }

theorem State.Inv.sampleStop (h : s.Inv) : s.sampleStop.2.Inv := { h with }

theorem State.Inv.svcTransfer (h : s.Inv) : s.svcTransfer.2.Inv := { h with }

theorem State.Inv.setRelay (h : s.Inv) (ch : Nat) (v : RelayState) : (s.setRelay ch v).Inv := by
  unfold State.setRelay
  split <;> exact { h with }

/-! ### The operations that write one -/

theorem State.Inv.invalidateDecode (h : s.Inv) : s.invalidateDecode.Inv :=
  { h with rv := by simp, dvFrame := by simp, dvDecode := by simp }

/-- A new frame is captured after the old decode is gone, in a phase without an error. -/
theorem State.Inv.capture (h : s.Inv) (hd : s.DV = false) (he : s.ERR = .none) (F : FrameWord) :
    (s.capture F).Inv :=
  { h with dvFrame := by simp, dvDecode := by simp [hd], busError := by simp [he] }

theorem State.Inv.invalidateFrame (h : s.Inv) (hd : s.DV = false) : s.invalidateFrame.Inv :=
  { h with dvFrame := by simp [hd], busError := by simp }

/-- The registers of the decode are written from the frame that is captured. -/
theorem State.Inv.latch (h : s.Inv) (hf : s.FV = true) :
    (s.latch (decodeTriple s.FRAME).tc (decodeTriple s.FRAME).cj (decodeTriple s.FRAME).fs
      (readingFlag (decodeTriple s.FRAME).fs)).Inv :=
  { h with
    rv := by simp [readingFlag]
    dvFrame := by simp [hf]
    dvDecode := by simp
    codes := statusCodes_le _ _ }

theorem State.Inv.closePhase (h : s.Inv) : s.closePhase.Inv :=
  { h with
    rv := by simp
    dvFrame := by simp
    dvDecode := by simp
    codes := statusCodes_le _ _
    busError := by simp }

/-- A bus error may stand in `ERR` only while no frame is captured. -/
theorem State.Inv.withErr (h : s.Inv) {e : ErrCode} (he : e = .busTransferFailure → s.FV = false) :
    State.Inv { s with ERR := e } :=
  { h with codes := statusCodes_le _ _, busError := he }

/-- The first error of the phase is kept, so that a bus error is an old one or the one raised. -/
theorem State.Inv.firstError_busError (h : s.Inv) {e : ErrCode}
    (he : e = .busTransferFailure → s.FV = false) :
    (if s.ERR = .none then e else s.ERR) = .busTransferFailure → s.FV = false := by
  split
  · exact he
  · exact h.busError

theorem State.Inv.raise (h : s.Inv) {e : ErrCode} (he : e = .busTransferFailure → s.FV = false) :
    (s.raise e).Inv := (h.withErr (h.firstError_busError he)).advance

theorem State.Inv.takeFault (h : s.Inv) {w : FaultReason} (hw : w ≠ .none) : (s.takeFault w).Inv :=
  { h with faultReason := by simp [hw] }

/-- A machine that halts was `Running`, so that it has no fault reason. -/
theorem State.Inv.halt (h : s.Inv) (hr : s.RUN = .running) : s.halt.Inv :=
  { h with faultReason := by simpa [hr] using h.faultReason }

theorem State.Inv.relayDriven (h : s.Inv) {ch : Nat} {en : Bool} (hd : RelayDriven s t ch en) :
    t.Inv := by
  obtain ⟨-, c, tr, rfl⟩ | ⟨e, c, tr, -, he, rfl⟩ := hd.outcome
  · exact { h.setRelay ch _ with }
  · have hbus := h.firstError_busError fun hb => absurd hb he
    have herr := (h.setRelay ch .unknown).withErr (by simpa using hbus)
    exact { herr with }

/-! ### The meanings, a step, a run -/

theorem State.Inv.execSetr (h : s.Inv) {ch : Nat} {en : Bool} (hx : execSetr ch en s = .next t) :
    t.Inv := by
  obtain ⟨-, -, rfl⟩ | ⟨e, -, -, -, rfl⟩ | ⟨_, -, -, hd⟩ := execSetr_cases hx
  · exact h.advance
  · exact h.raise (by cases e <;> simp [resolveErrCode])
  · exact h.relayDriven hd

theorem State.Inv.execWait (h : s.Inv) (hx : execWait s = .next t) : t.Inv := by
  obtain ⟨-, rfl⟩ | ⟨-, rfl⟩ := execWait_cases hx
  · exact h.advance
  · exact (h.emit _).advance

theorem State.Inv.execAcq (h : s.Inv) (hx : execAcq s = .next t) : t.Inv := by
  obtain ⟨-, rfl⟩ | ⟨he, F, rfl⟩ | ⟨-, rfl⟩ := execAcq_cases hx
  · exact h.advance
  · exact (h.invalidateDecode.svcTransfer.capture rfl he F).advance
  · exact (h.invalidateDecode.svcTransfer.invalidateFrame rfl).raise fun _ => rfl

theorem State.Inv.execDec (h : s.Inv) (hx : execDec s = .next t) : t.Inv := by
  obtain ⟨-, rfl⟩ | ⟨-, -, rfl⟩ | ⟨-, hf, rfl⟩ := execDec_cases hx
  · exact h.advance
  · exact h.takeFault (by decide)
  · exact (h.latch hf).advance

theorem State.Inv.execRpt (h : s.Inv) {lbl : Nat} (hx : execRpt lbl s = .next t) : t.Inv := by
  obtain ⟨r, -, rfl⟩ | ⟨-, -, rfl⟩ := execRpt_cases hx
  · exact (h.emit _).closePhase.advance
  · exact h.takeFault (by decide)

theorem State.Inv.execLoop (h : s.Inv) {a : Nat} (hx : execLoop a s = .next t) : t.Inv := by
  obtain ⟨-, rfl⟩ | ⟨-, rfl⟩ := execLoop_cases hx
  · exact h.sampleStop.jump _
  · exact h.sampleStop.advance

theorem execHalt_eq (hx : execHalt s = .next t) : t = s.halt := by
  simpa [execHalt] using hx.symm

/-- A micro-operation keeps the invariants. A frame class alone does not: it latches its own
operands, whatever `FRAME` holds (log entry 6). -/
theorem State.Inv.exec (h : s.Inv) (hr : s.RUN = .running) {w : Byte} {i : Instr}
    (hi : decodeUop w = .ok i) (hx : exec i s = .next t) : t.Inv := by
  obtain ⟨ch, en, rfl⟩ | rfl | rfl | rfl | ⟨lbl, rfl⟩ | ⟨a, rfl⟩ | rfl := decodeUop_cases hi
  · exact h.execSetr hx
  · exact h.execWait hx
  · exact h.execAcq hx
  · exact h.execDec hx
  · exact h.execRpt hx
  · exact h.execLoop hx
  · exact execHalt_eq hx ▸ h.halt hr

/-- Settles O45: the fetched word is a micro-operation, which keeps the invariants, or it is reserved
and the step is a fault with a reason. -/
theorem everyStepKeepsTheStateInvariants : Obligations.EveryStepKeepsTheStateInvariants := by
  intro s t h hst
  obtain ⟨hr, ⟨i, hi, hx⟩ | ⟨e, -, rfl⟩⟩ := step_cases hst
  · exact h.exec hr hi hx
  · exact h.takeFault (by decide)

/-- Settles O46: after reset every valid flag is 0 and the machine is `Running` without a fault
reason. -/
theorem resetHasTheStateInvariants : Obligations.ResetHasTheStateInvariants :=
  ⟨State.resetWith_inv, State.resetWith_inv _ _ rfl⟩

/-- Settles O47, by induction on the number of steps (`run_keeps`). -/
theorem reachableStatesHaveTheStateInvariants :
    Obligations.ReachableStatesHaveTheStateInvariants := by
  intro inp calls k t hwf hrun
  exact run_keeps everyStepKeepsTheStateInvariants k _ t (State.resetWith_inv inp calls hwf) hrun

end Sys2Proof.Machine
end

section
/-! SUPPORT. Which registers each instruction writes (R40), where it leaves `RUN` and `upc` (R25,
R34), what `skip` suppresses (R28), and the codes that the host reads. -/

namespace Sys2Proof.Machine

variable {i : Instr} {s t : State}

/-! ### The writers of each register -/

/-- A frame class latches its own decode and advances. -/
theorem exec_frame_cases (hf : i.format = .frame32) (h : exec i s = .next t) :
    ∃ tc cj fs rv, t = (s.latch tc cj fs rv).advance := by
  cases i with
  | rd | fltOc | fltScg | fltScv | fltUnk => cases h; exact ⟨_, _, _, _, rfl⟩
  | _ => cases hf

/-- Settles O40, instruction by instruction: the lemma `_cases` of each says which operations it is
made of, and the laws of the state say what those write. -/
theorem registersChangeOnlyInTheirWriters : Obligations.RegistersChangeOnlyInTheirWriters := by
  intro i s t h
  cases i with
  | setr ch en =>
    obtain ⟨-, -, rfl⟩ | ⟨e, -, -, -, rfl⟩ | ⟨_, -, -, hd⟩ := execSetr_cases h
    · simp [State.romRead]
    · simp [State.romRead]
    · obtain ⟨-, c, tr, rfl⟩ | ⟨e, c, tr, -, -, rfl⟩ := hd.outcome
      · simp [State.romRead, Instr.format]
      · simp [State.romRead, Instr.format]
  | wait =>
    obtain ⟨-, rfl⟩ | ⟨-, rfl⟩ := execWait_cases h <;>
      simp [State.romRead, Instr.format]
  | acq =>
    obtain ⟨-, rfl⟩ | ⟨-, F, rfl⟩ | ⟨-, rfl⟩ := execAcq_cases h <;>
      simp [State.romRead, Instr.format]
  | dec =>
    obtain ⟨-, rfl⟩ | ⟨-, -, rfl⟩ | ⟨-, -, rfl⟩ := execDec_cases h <;>
      simp [State.romRead, Instr.format]
  | rpt lbl =>
    obtain ⟨r, -, rfl⟩ | ⟨-, -, rfl⟩ := execRpt_cases h <;>
      simp [State.romRead, Instr.format]
  | loop a =>
    obtain ⟨-, rfl⟩ | ⟨-, rfl⟩ := execLoop_cases h <;>
      simp [State.romRead, Instr.format]
  | halt =>
    obtain rfl := execHalt_eq h
    simp [State.romRead, Instr.format]
  | _ =>
    obtain ⟨tc, cj, fs, rv, rfl⟩ := exec_frame_cases rfl h
    simp [State.romRead, Instr.format]

/-! ### `RUN` and `upc` -/

/-- How an instruction, run in `Running`, leaves the run state and the program counter. -/
inductive ControlOutcome (i : Instr) (s t : State) : Prop where
  | fault (hhalt : i ≠ .halt) (hloop : ∀ a, i ≠ .loop a) (run : t.RUN = .faulted)
      (pc : t.upc = s.upc)
  | halt (hi : i = .halt) (run : t.RUN = .halted) (pc : t.upc = s.upc)
  | jump (a : Nat) (hi : i = .loop a) (stop : s.stopLevel = false) (run : t.RUN = .running)
      (pc : t.upc = BitVec.ofNat 5 a)
  | advance (hhalt : i ≠ .halt) (hloop : ∀ a, i = .loop a → s.stopLevel = true)
      (run : t.RUN = .running) (pc : t.upc = s.upc + 1#5)

theorem RelayDriven.run_pc {ch : Nat} {en : Bool} (h : RelayDriven s t ch en) :
    t.RUN = s.RUN ∧ t.upc = s.upc + 1#5 := by
  obtain ⟨-, c, tr, rfl⟩ | ⟨e, c, tr, -, -, rfl⟩ := h.outcome
  · simp
  · simp

theorem exec_controlOutcome (hr : s.RUN = .running) (h : exec i s = .next t) :
    ControlOutcome i s t := by
  cases i with
  | setr ch en =>
    obtain ⟨-, -, rfl⟩ | ⟨e, -, -, -, rfl⟩ | ⟨_, -, -, hd⟩ := execSetr_cases h
    · exact .advance nofun nofun hr rfl
    · exact .advance nofun nofun hr rfl
    · exact .advance nofun nofun (hd.run_pc.1.trans hr) hd.run_pc.2
  | wait =>
    obtain ⟨-, rfl⟩ | ⟨-, rfl⟩ := execWait_cases h
    · exact .advance nofun nofun hr rfl
    · exact .advance nofun nofun hr rfl
  | acq =>
    obtain ⟨-, rfl⟩ | ⟨-, F, rfl⟩ | ⟨-, rfl⟩ := execAcq_cases h
    · exact .advance nofun nofun hr rfl
    · exact .advance nofun nofun hr rfl
    · exact .advance nofun nofun hr rfl
  | dec =>
    obtain ⟨-, rfl⟩ | ⟨-, -, rfl⟩ | ⟨-, -, rfl⟩ := execDec_cases h
    · exact .advance nofun nofun hr rfl
    · exact .fault nofun nofun rfl rfl
    · exact .advance nofun nofun hr rfl
  | rpt lbl =>
    obtain ⟨r, -, rfl⟩ | ⟨-, -, rfl⟩ := execRpt_cases h
    · exact .advance nofun nofun hr rfl
    · exact .fault nofun nofun rfl rfl
  | loop a =>
    obtain ⟨hs, rfl⟩ | ⟨hs, rfl⟩ := execLoop_cases h
    · exact .jump a rfl hs hr rfl
    · exact .advance nofun (fun _ _ => hs) hr rfl
  | halt =>
    obtain rfl := execHalt_eq h
    exact .halt rfl rfl rfl
  | _ =>
    obtain ⟨tc, cj, fs, rv, rfl⟩ := exec_frame_cases rfl h
    exact .advance nofun nofun hr rfl

theorem step_programCounter (h : step s = .next t) :
    (t.RUN ≠ .running → t.upc = s.upc) ∧
    (∀ a, decodeUop s.fetch = .ok (.loop a) → s.stopLevel = false → t.upc = BitVec.ofNat 5 a) ∧
    (t.RUN = .running → (∀ a, decodeUop s.fetch = .ok (.loop a) → s.stopLevel = true) →
      t.upc.toNat = (s.upc.toNat + 1) % 32) := by
  obtain ⟨hr, ⟨i, hi, hx⟩ | ⟨e, he, rfl⟩⟩ := step_cases h
  · cases exec_controlOutcome hr hx with
    | fault => simp_all
    | halt => simp_all
    | jump => simp_all
    | advance => simp_all
  · simp [he]

theorem exec_programCounter (hr : s.RUN = .running) (h : exec i s = .next t) :
    (t.RUN = .faulted → t.upc = s.upc) ∧
    (i = .halt → t.upc = s.upc) ∧
    (∀ a, i = .loop a → s.stopLevel = false → t.upc = BitVec.ofNat 5 a) ∧
    (∀ a, i = .loop a → s.stopLevel = true → t.upc.toNat = (s.upc.toNat + 1) % 32) ∧
    (i ≠ .halt → (∀ a, i ≠ .loop a) → t.RUN ≠ .faulted → t.upc.toNat = (s.upc.toNat + 1) % 32) := by
  cases exec_controlOutcome hr h with
  | fault => simp_all
  | halt => simp_all
  | jump => simp_all
  | advance => simp_all

/-- Settles O41, from how each instruction leaves `RUN` and `upc` (`ControlOutcome`). -/
theorem whereTheProgramCounterGoes : Obligations.WhereTheProgramCounterGoes :=
  ⟨fun _ => rfl, fun _ _ => rfl, fun _ _ => step_programCounter, fun _ _ _ => exec_programCounter⟩

theorem step_halted_iff (h : step s = .next t) :
    t.RUN = .halted ↔ decodeUop s.fetch = .ok .halt := by
  obtain ⟨hr, ⟨i, hi, hx⟩ | ⟨e, he, rfl⟩⟩ := step_cases h
  · rw [hi]
    cases exec_controlOutcome hr hx with
    | fault hhalt hloop run pc => simp [run, hhalt]
    | halt hi' run pc => simp [run, hi']
    | jump a hi' stop run pc => simp [run, hi']
    | advance hhalt hloop run pc => simp [run, hhalt]
  · simp [he]

/-- Settles O43: no instruction but `HALT` has the outcome `ControlOutcome.halt`. -/
theorem runStateTransitions : Obligations.RunStateTransitions := by
  refine ⟨fun s t h => ⟨(step_cases h).1, step_halted_iff h⟩, fun s hr => ?_, fun s hr => ?_,
    fun _ => rfl⟩
  · rw [step, hr]
  · rw [step, hr]

/-! ### `skip`, and the codes -/

/-- R28: what a skipped operation does. -/
theorem exec_of_skip (hs : s.skip = true)
    (hi : (∃ ch, i = .setr ch true) ∨ i = .wait ∨ i = .acq ∨ i = .dec) :
    exec i s = .next s.advance := by
  obtain ⟨ch, rfl⟩ | rfl | rfl | rfl := hi
  · exact if_pos (by simp [hs])
  · exact if_pos hs
  · exact if_pos hs
  · exact if_pos hs

theorem err_iff_code {e : ErrCode} {c : BitVec 3} (h : errCode e = c) :
    s.ERR = e ↔ errCode s.ERR = c :=
  (errCode_injective.eq_iff' h).symm

/-- Settles O37: `errCode` is injective, so code 0 is `None` alone. -/
theorem skippedOperationsOnlyAdvance : Obligations.SkippedOperationsOnlyAdvance := by
  intro s
  refine ⟨(skip_iff s).trans (err_iff_code rfl).not, fun hs _ hi => exec_of_skip hs hi,
    err_iff_code rfl, err_iff_code rfl, err_iff_code rfl, err_iff_code rfl, err_iff_code rfl,
    err_iff_code rfl⟩

theorem relayCode_iff_cell {v w : RelayState} {c : BitVec 2} (h : relayCode w = c) :
    relayCode v = c ↔ some v = some w :=
  (relayCode_injective.eq_iff' h).trans (Option.some_inj).symm

/-- Settles O55: each coding is injective, so a code stands for one value. -/
theorem hostReadsTheStatusCodes : Obligations.HostReadsTheStatusCodes := by
  intro s
  and_intros
  · rfl
  iterate 3 exact runCode_injective.eq_iff' rfl
  iterate 4 exact faultCode_injective.eq_iff' rfl
  iterate 6 exact errCode_injective.eq_iff' rfl
  iterate 9 exact relayCode_iff_cell rfl

end Sys2Proof.Machine
end

section
/-! SUPPORT. The captured frame is the big-endian assembly of the four bytes of a transfer (R54). -/

namespace Sys2Proof.Machine

/-! ### The bytes and the halves of an assembled frame -/

theorem bytesOfFrame_frameOfBytes (b0 b1 b2 b3 : Byte) :
    bytesOfFrame (frameOfBytes b0 b1 b2 b3) = [b0, b1, b2, b3] := by
  simp only [bytesOfFrame, frameOfBytes, BitVec.extractLsb'_append_eq_ite]
  simp

/-- The upper half of any frame is its first two bytes in the order received. -/
theorem hi16_eq_append (F : FrameWord) : hi16 F = F.extractLsb' 24 8 ++ F.extractLsb' 16 8 :=
  (BitVec.extractLsb'_append_extractLsb'_eq_extractLsb' (x := F) (start₁ := 16)
    (len₁ := 8) (len₂ := 8) rfl).symm

/-- The lower half of any frame is its last two bytes in the order received. -/
theorem hi16b_eq_append (F : FrameWord) : hi16b F = F.extractLsb' 8 8 ++ F.extractLsb' 0 8 :=
  (BitVec.extractLsb'_append_extractLsb'_eq_extractLsb' (x := F) (start₁ := 0)
    (len₁ := 8) (len₂ := 8) rfl).symm

/-! ### The capture -/

/-- R153: where a transfer in a phase without an error answers four bytes, `ACQ` captures their
frame. -/
theorem execAcq_of_fourBytes {s : State} {b0 b1 b2 b3 : Byte} (he : s.ERR = .none)
    (hb : s.busAnswer = .ok [b0, b1, b2, b3]) :
    execAcq s =
      .next (s.invalidateDecode.svcTransfer.2.capture (frameOfBytes b0 b1 b2 b3)).advance := by
  have hs : ¬ s.skip = true := by simp [skip_iff, he]
  have ht : s.invalidateDecode.svcTransfer =
      (.ok [b0, b1, b2, b3], s.invalidateDecode.svcTransfer.2) :=
    Prod.ext hb rfl
  rw [execAcq, if_neg hs, ht]

/-- Settles O44: `FRAME` is the frame of the four bytes (`execAcq_of_fourBytes`), whose bytes are
those four in their order; the view and the two halves are made of these bytes. -/
theorem receiveBufferIsBigEndian : Obligations.ReceiveBufferIsBigEndian := by
  intro b0 b1 b2 b3 s t he hb h
  have hF : t.FRAME = frameOfBytes b0 b1 b2 b3 := by
    obtain rfl := Host.Outcome.next.inj ((execAcq_of_fourBytes he hb).symm.trans h)
    rfl
  have hbytes : bytesOfFrame t.FRAME = [b0, b1, b2, b3] :=
    hF ▸ bytesOfFrame_frameOfBytes b0 b1 b2 b3
  simp only [bytesOfFrame, List.cons.injEq, and_true] at hbytes
  obtain ⟨h0, h1, h2, h3⟩ := hbytes
  exact ⟨h0, h1, h2, h3, h0, h1, h2, h3, by rw [hi16_eq_append, h0, h1],
    by rw [hi16b_eq_append, h2, h3]⟩

end Sys2Proof.Machine
end

section
/-! SUPPORT. The frame format `FRAME32` (R71, R78): its fields, its bytes, the one class of a frame,
and the bits that the decode does not read (R81 to R83). -/

namespace Sys2Proof.Machine

/-! ### Packing and unpacking the fields (R71, R72) -/

section
variable (tc14 : BitVec 14) (cj12 : BitVec 12) (b17 fault b3 scv scg oc : Bool)

@[simp] theorem fieldTc14_packFrame :
    fieldTc14 (packFrame tc14 b17 fault cj12 b3 scv scg oc) = tc14 := by
  simp only [fieldTc14, packFrame, BitVec.extractLsb'_append_eq_ite]
  simp

@[simp] theorem fieldCj12_packFrame :
    fieldCj12 (packFrame tc14 b17 fault cj12 b3 scv scg oc) = cj12 := by
  simp only [fieldCj12, packFrame, BitVec.extractLsb'_append_eq_ite]
  simp

@[simp] theorem bit17_packFrame : bit17 (packFrame tc14 b17 fault cj12 b3 scv scg oc) = b17 := by
  simp only [bit17, packFrame, BitVec.getLsbD_append]
  simp

@[simp] theorem faultFlag_packFrame :
    faultFlag (packFrame tc14 b17 fault cj12 b3 scv scg oc) = fault := by
  simp only [faultFlag, packFrame, BitVec.getLsbD_append]
  simp

@[simp] theorem bit3_packFrame : bit3 (packFrame tc14 b17 fault cj12 b3 scv scg oc) = b3 := by
  simp only [bit3, packFrame, BitVec.getLsbD_append]
  simp

@[simp] theorem bitScv_packFrame : bitScv (packFrame tc14 b17 fault cj12 b3 scv scg oc) = scv := by
  simp only [bitScv, packFrame, BitVec.getLsbD_append]
  simp

@[simp] theorem bitScg_packFrame : bitScg (packFrame tc14 b17 fault cj12 b3 scv scg oc) = scg := by
  simp only [bitScg, packFrame, BitVec.getLsbD_append]
  simp

@[simp] theorem bitOc_packFrame : bitOc (packFrame tc14 b17 fault cj12 b3 scv scg oc) = oc := by
  simp only [bitOc, packFrame, BitVec.getLsbD_append]
  simp

end

/-- A single bit is a slice of length one. -/
theorem ofBool_getLsbD_eq_extractLsb' {n : Nat} (x : BitVec n) (k : Nat) :
    BitVec.ofBool (x.getLsbD k) = x.extractLsb' k 1 := by
  apply BitVec.eq_of_getLsbD_eq
  intro i hi
  obtain rfl : i = 0 := by omega
  simp

theorem packFrame_fields (F : FrameWord) :
    packFrame (fieldTc14 F) (bit17 F) (faultFlag F) (fieldCj12 F) (bit3 F) (bitScv F) (bitScg F)
      (bitOc F) = F := by
  unfold packFrame fieldTc14 bit17 faultFlag fieldCj12 bit3 bitScv bitScg bitOc
  simp only [ofBool_getLsbD_eq_extractLsb']
  iterate 7 rw [BitVec.extractLsb'_append_extractLsb'_eq_extractLsb' (by rfl)]
  exact BitVec.extractLsb'_eq_self

theorem frameOfBytes_bytesOfFrame (F : FrameWord) :
    frameOfBytes (F.extractLsb' 24 8) (F.extractLsb' 16 8) (F.extractLsb' 8 8)
      (F.extractLsb' 0 8) = F := by
  rw [frameOfBytes]
  iterate 3 rw [BitVec.extractLsb'_append_extractLsb'_eq_extractLsb' (by rfl)]
  exact BitVec.extractLsb'_eq_self

/-! ### The class of a frame (R78) -/

/-- `classOf_eq` by the names of the deciding bits (R76). -/
theorem classOf_eq_of_fields (F : FrameWord) :
    classOf F =
      if faultFlag F = false then .rd
      else if bitOc F then .fltOc
      else if bitScg F then .fltScg
      else if bitScv F then .fltScv
      else .fltUnk :=
  classOf_eq F

theorem classOf_of_flag_clear {F : FrameWord} (h : F.getLsbD 16 = false) : classOf F = .rd := by
  rw [classOf_eq, if_pos h]

theorem classOf_of_flag_alone {F : FrameWord} (h16 : F.getLsbD 16 = true)
    (h0 : F.getLsbD 0 = false) (h1 : F.getLsbD 1 = false) (h2 : F.getLsbD 2 = false) :
    classOf F = .fltUnk := by
  simp only [classOf_eq, h16, h0, h1, h2, Bool.true_eq_false, Bool.false_eq_true, if_false]

/-- A leaf of the priority chain of `classOf_eq` fixes every bit that decides between the rows: there
the class's own row holds and the other four fail. -/
theorem frameMatches_iff (c : FrameClass) (F : FrameWord) :
    frameMatches c F = true ↔ classOf F = c := by
  rw [classOf_eq]
  split_ifs <;> cases c <;>
    simp [frameMatches_rd, frameMatches_fltOc, frameMatches_fltScg, frameMatches_fltScv,
      frameMatches_fltUnk, -BitVec.getLsbD_eq_getElem, *]

/-- Settles O5: the masked comparison is `frameMatches` (`frameMatches_iff`). -/
theorem exactlyOneFrameClassMatches : Obligations.ExactlyOneFrameClassMatches := by
  intro F c
  rw [← frameMatches_iff, frameMatches, beq_iff_eq]

/-! ### What the decode reads (R81, R82) -/

section
variable {F G : FrameWord}

/-- The class depends on the bits 16, 2, 1, 0 only. -/
theorem classOf_congr (h16 : F.getLsbD 16 = G.getLsbD 16) (h2 : F.getLsbD 2 = G.getLsbD 2)
    (h1 : F.getLsbD 1 = G.getLsbD 1) (h0 : F.getLsbD 0 = G.getLsbD 0) : classOf F = classOf G := by
  rw [classOf_eq, classOf_eq, h16, h2, h1, h0]

theorem fieldTc14_congr (h : ∀ k, 18 ≤ k → F.getLsbD k = G.getLsbD k) :
    fieldTc14 F = fieldTc14 G := by
  apply BitVec.eq_of_getLsbD_eq
  intro i hi
  simp only [fieldTc14, BitVec.getLsbD_extractLsb', h (18 + i) (by omega)]

theorem fieldCj12_congr (h : ∀ k, 4 ≤ k → k < 16 → F.getLsbD k = G.getLsbD k) :
    fieldCj12 F = fieldCj12 G := by
  apply BitVec.eq_of_getLsbD_eq
  intro i hi
  simp only [fieldCj12, BitVec.getLsbD_extractLsb', h (4 + i) (by omega) (by omega)]

/-- The decode depends on the class and the two temperature fields only. -/
theorem decodeTriple_congr (hc : classOf F = classOf G)
    (ht : ∀ k, 18 ≤ k → F.getLsbD k = G.getLsbD k)
    (hj : ∀ k, 4 ≤ k → k < 16 → F.getLsbD k = G.getLsbD k) :
    decodeTriple F = decodeTriple G := by
  rw [decodeTriple, decodeTriple, fsOf_eq, fsOf_eq, hc, fieldTc14_congr ht, fieldCj12_congr hj]

end

/-- Settles O8: neither the class nor a temperature field reads bit 17 or bit 3. -/
theorem frameBits17And3AreIgnored : Obligations.FrameBits17And3AreIgnored := by
  intro F G h
  have hc : classOf F = classOf G :=
    classOf_congr (h 16 (by omega) (by omega)) (h 2 (by omega) (by omega))
      (h 1 (by omega) (by omega)) (h 0 (by omega) (by omega))
  exact ⟨hc, decodeTriple_congr hc (fun k hk => h k (by omega) (by omega))
    (fun k hk hk' => h k (by omega) (by omega))⟩

/-- Settles O9: both frames are of class `RD`, and the temperature fields lie from bit 4 up. -/
theorem causeBitsIgnoredWithFlagClear : Obligations.CauseBitsIgnoredWithFlagClear := by
  refine ⟨fun F G hF h => ?_, by decide⟩
  have hcF : classOf F = .rd := classOf_of_flag_clear hF
  have hcG : classOf G = .rd := classOf_of_flag_clear ((h 16 (by omega)).symm.trans hF)
  exact ⟨hcF, hcG, decodeTriple_congr (hcF.trans hcG.symm) (fun k hk => h k (by omega))
    (fun k hk _ => h k (by omega))⟩

/-- Settles O10: the fault status is the status of the class, `FLT.UNK`. -/
theorem inconsistentFrameIsUnknownFault : Obligations.InconsistentFrameIsUnknownFault := by
  intro F h16 h0 h1 h2
  have hc : classOf F = .fltUnk := classOf_of_flag_alone h16 h0 h1 h2
  have hs : fsOf F = .unknownFault := by rw [fsOf_eq, hc, classStatus]
  have hd : (decodeTriple F).fs = .unknownFault := hs
  exact ⟨hc, hd, by rw [hd, fsCode], by rw [decodeResult, hs, if_neg (by decide)]⟩

/-! ### Decoding and encoding a frame -/

theorem decode_bytesOfFrame (F : FrameWord) :
    decode .frame32 (bytesOfFrame F) = .ok (decodeFrame F) :=
  congrArg (fun G => Except.ok (decodeFrame G)) (frameOfBytes_bytesOfFrame F)

theorem decodeFrame_wf (F : FrameWord) : (decodeFrame F).wf = true := by
  unfold decodeFrame
  cases classOf F <;> rfl

theorem decodeFrame_format (F : FrameWord) : (decodeFrame F).format = .frame32 := by
  unfold decodeFrame
  cases classOf F <;> rfl

/-- The encoder writes the deciding bits as the class fixes them, and the other fields as read. -/
theorem encode_decodeFrame (F : FrameWord) : encode (decodeFrame F) = bytesOfFrame F := by
  conv_rhs => rw [← packFrame_fields F]
  rw [decodeFrame, classOf_eq_of_fields]
  cases faultFlag F with
  | false => rfl
  | true =>
    cases bitOc F with
    | true => rfl
    | false =>
      cases bitScg F with
      | true => rfl
      | false => cases bitScv F <;> rfl

/-- The decoder reads back the class and the fields of a frame instruction. -/
theorem decode_encode_frame {i : Instr} (hf : i.format = .frame32) :
    decode .frame32 (encode i) = .ok i := by
  cases i with
  | rd | fltOc | fltScg | fltScv | fltUnk =>
    rw [encode, decode_bytesOfFrame]
    simp [decodeFrame, classOf_eq_of_fields]
  | setr | wait | acq | dec | rpt | loop | halt => cases hf

end Sys2Proof.Machine
end

section
/-! SUPPORT. The micro-operation format `UOP8` (R73, R79): a word as an operation code and an
operand, the one row that a word matches, and the reserved words (R86). -/

namespace Sys2Proof.Machine

/-! ### The rows of R79 by operation code and unused bits (R73) -/

/-- `opc = w[7:5]` (R73). -/
def opcOf (w : Byte) : BitVec 3 := w.extractLsb' 5 3
/-- `arg = w[4:0]` (R73). -/
def argOf (w : Byte) : BitVec 5 := w.extractLsb' 0 5

/-- The operation code of each row (R73). -/
def uopOpc : UopOp → BitVec 3
  | .setr => 0b001#3
  | .wait => 0b010#3
  | .acq => 0b011#3
  | .dec => 0b100#3
  | .rpt => 0b101#3
  | .loop => 0b110#3
  | .halt => 0b111#3

/-- How many low bits of the word a row requires to be zero (R73). -/
def uopUnused : UopOp → Nat
  | .setr => 1
  | .wait => 5
  | .acq => 5
  | .dec => 5
  | .rpt => 2
  | .loop => 0
  | .halt => 5

theorem uopUnused_le (o : UopOp) : uopUnused o ≤ 5 := by cases o <;> decide

theorem uopMask_eq (o : UopOp) :
    uopMask o = BitVec.allOnes 3 ++ BitVec.ofNat 5 (2 ^ uopUnused o - 1) := by
  cases o <;> rfl

theorem uopPattern_eq (o : UopOp) : uopPattern o = uopOpc o ++ 0#5 := by cases o <;> rfl

theorem uopOpc_injective : Function.Injective uopOpc := by
  intro a b
  cases a <;> cases b <;> decide

theorem uopOpc_ne_zero (o : UopOp) : uopOpc o ≠ 0b000#3 := by cases o <;> decide

/-- The operation code 000 is the only one without a row. -/
theorem eq_zero_or_uopOpc (c : BitVec 3) : c = 0b000#3 ∨ ∃ o, c = uopOpc o := by
  have hall : ∀ c : BitVec 3, c = 0b000#3 ∨ ∃ o ∈ uopRows, c = uopOpc o := by decide
  exact (hall c).imp_right fun ⟨o, _, ho⟩ => ⟨o, ho⟩

theorem mem_uopRows (o : UopOp) : o ∈ uopRows := by cases o <;> decide

theorem opcOf_append_argOf (w : Byte) : opcOf w ++ argOf w = w :=
  (BitVec.extractLsb'_append_extractLsb'_eq_extractLsb' (x := w) (start₁ := 0) (len₁ := 5)
    (len₂ := 3) rfl).trans BitVec.extractLsb'_eq_self

theorem opc_append_arg_eq_iff {c d : BitVec 3} {a b : BitVec 5} :
    c ++ a = d ++ b ↔ c = d ∧ a = b := by
  constructor
  · intro h
    have hc := congrArg (BitVec.extractLsb' 5 3) h
    have ha := congrArg (BitVec.extractLsb' 0 5) h
    rw [BitVec.extractLsb'_append_eq_left, BitVec.extractLsb'_append_eq_left] at hc
    rw [BitVec.extractLsb'_append_eq_right, BitVec.extractLsb'_append_eq_right] at ha
    exact ⟨hc, ha⟩
  · rintro ⟨rfl, rfl⟩
    rfl

/-- An operand masked to its low `n` bits is zero when these bits of the word are. -/
theorem argOf_and_lowBits_eq_zero_iff (w : Byte) {n : Nat} (hn : n ≤ 5) :
    argOf w &&& BitVec.ofNat 5 (2 ^ n - 1) = 0#5 ↔ w.extractLsb' 0 n = 0#n := by
  have hlt : 2 ^ n - 1 < 2 ^ 5 := by have := Nat.pow_le_pow_right (n := 2) (by omega) hn; omega
  rw [← BitVec.toNat_inj, ← BitVec.toNat_inj, argOf]
  simp only [BitVec.toNat_and, BitVec.extractLsb'_toNat, Nat.shiftRight_zero, BitVec.toNat_ofNat,
    Nat.mod_eq_of_lt hlt, Nat.and_two_pow_sub_one_eq_mod, Nat.zero_mod,
    Nat.mod_mod_of_dvd _ (Nat.pow_dvd_pow 2 hn)]

/-- R79: a word is of a row when it has the row's operation code and its unused bits are zero. -/
theorem uopMatches_iff (o : UopOp) (w : Byte) :
    uopMatches o w = true ↔ opcOf w = uopOpc o ∧ w.extractLsb' 0 (uopUnused o) = 0 := by
  rw [uopMatches, beq_iff_eq, uopMask_eq, uopPattern_eq]
  conv_lhs => rw [← opcOf_append_argOf w]
  rw [BitVec.and_append, opc_append_arg_eq_iff, BitVec.and_allOnes,
    argOf_and_lowBits_eq_zero_iff w (uopUnused_le o)]
  rfl

theorem uopMatches_unique {o o' : UopOp} {w : Byte} (h : uopMatches o w = true)
    (h' : uopMatches o' w = true) : o = o' :=
  uopOpc_injective (((uopMatches_iff o w).1 h).1.symm.trans ((uopMatches_iff o' w).1 h').1)

theorem uopMatches_uopPattern (o : UopOp) : uopMatches o (uopPattern o) = true := by cases o <;> rfl

/-! ### The decoder of a word by its row -/

theorem decodeUop_ok_row {w : Byte} {i : Instr} (h : decodeUop w = .ok i) :
    ∃ o, uopMatches o w = true ∧ i = uopInstr o w := by
  unfold decodeUop at h
  split at h
  · next o ho => exact ⟨o, List.find?_some (p := (uopMatches · w)) ho, (Except.ok.inj h).symm⟩
  · cases h

/-- A word of a row decodes to the instruction of that row. -/
theorem decodeUop_of_matches {o : UopOp} {w : Byte} (h : uopMatches o w = true) :
    decodeUop w = .ok (uopInstr o w) := by
  unfold decodeUop
  split
  · next o' ho => rw [uopMatches_unique h (List.find?_some (p := (uopMatches · w)) ho)]
  · next hn => exact absurd h (List.find?_eq_none.1 hn o (mem_uopRows o))

/-- A word is reserved when it is of no row. -/
theorem decodeUop_reserved_iff_matches (w : Byte) :
    decodeUop w = .error (.reservedUop w) ↔ ∀ o, ¬ uopMatches o w = true := by
  constructor
  · intro h o ho
    rw [decodeUop_of_matches ho] at h
    cases h
  · intro h
    cases hd : decodeUop w with
    | error e => rw [decodeUop_error hd]
    | ok i =>
      obtain ⟨o, ho, -⟩ := decodeUop_ok_row hd
      exact absurd ho (h o)

/-- A word is reserved when its operation code has no row, or has one and an unused bit is set. -/
theorem decodeUop_reserved_iff (w : Byte) :
    decodeUop w = .error (.reservedUop w) ↔
      opcOf w = 0b000#3 ∨ ∃ o, opcOf w = uopOpc o ∧ w.extractLsb' 0 (uopUnused o) ≠ 0 := by
  simp only [decodeUop_reserved_iff_matches, uopMatches_iff, not_and]
  constructor
  · intro h
    exact (eq_zero_or_uopOpc (opcOf w)).imp_right fun ⟨o, ho⟩ => ⟨o, ho, h o ho⟩
  · rintro (h0 | ⟨o, ho, hu⟩) o' ho'
    · exact absurd (ho'.symm.trans h0) (uopOpc_ne_zero o')
    · obtain rfl := uopOpc_injective (ho.symm.trans ho')
      exact hu

/-! ### The words of the operations with operands (R73, R77) -/

theorem opcOf_packSetr (ch : Nat) (en : Bool) : opcOf (packSetr ch en) = 0b001#3 := by
  simp only [opcOf, packSetr, BitVec.extractLsb'_append_eq_ite]
  simp

theorem unused_packSetr (ch : Nat) (en : Bool) : (packSetr ch en).extractLsb' 0 1 = 0#1 := by
  simp only [packSetr, BitVec.extractLsb'_append_eq_ite]
  simp

@[simp] theorem fieldCh_packSetr (ch : Nat) (en : Bool) : fieldCh (packSetr ch en) = ch % 8 := by
  simp only [fieldCh, packSetr, BitVec.extractLsb'_append_eq_ite]
  simp

@[simp] theorem fieldEn_packSetr (ch : Nat) (en : Bool) : fieldEn (packSetr ch en) = en := by
  simp only [fieldEn, packSetr, BitVec.getLsbD_append]
  simp

theorem opcOf_packRpt (lbl : Nat) : opcOf (packRpt lbl) = 0b101#3 := by
  simp only [opcOf, packRpt, BitVec.extractLsb'_append_eq_ite]
  simp

theorem unused_packRpt (lbl : Nat) : (packRpt lbl).extractLsb' 0 2 = 0#2 := by
  simp only [packRpt, BitVec.extractLsb'_append_eq_ite]
  simp

@[simp] theorem fieldCh_packRpt (lbl : Nat) : fieldCh (packRpt lbl) = lbl % 8 := by
  simp only [fieldCh, packRpt, BitVec.extractLsb'_append_eq_ite]
  simp

theorem opcOf_packLoop (t : Nat) : opcOf (packLoop t) = 0b110#3 :=
  BitVec.extractLsb'_append_eq_left

@[simp] theorem fieldTarget_packLoop (t : Nat) : fieldTarget (packLoop t) = t % 32 :=
  congrArg BitVec.toNat BitVec.extractLsb'_append_eq_right

theorem packSetr_fields {w : Byte} (hc : opcOf w = 0b001#3) (hu : w.extractLsb' 0 1 = 0#1) :
    packSetr (fieldCh w) (fieldEn w) = w := by
  rw [packSetr, fieldCh, fieldEn, BitVec.ofNat_toNat, BitVec.setWidth_eq,
    ofBool_getLsbD_eq_extractLsb', ← hc, ← hu, opcOf]
  iterate 3 rw [BitVec.extractLsb'_append_extractLsb'_eq_extractLsb' (by rfl)]
  exact BitVec.extractLsb'_eq_self

theorem packRpt_fields {w : Byte} (hc : opcOf w = 0b101#3) (hu : w.extractLsb' 0 2 = 0#2) :
    packRpt (fieldCh w) = w := by
  rw [packRpt, fieldCh, BitVec.ofNat_toNat, BitVec.setWidth_eq, ← hc, ← hu, opcOf]
  iterate 2 rw [BitVec.extractLsb'_append_extractLsb'_eq_extractLsb' (by rfl)]
  exact BitVec.extractLsb'_eq_self

theorem packLoop_fields {w : Byte} (hc : opcOf w = 0b110#3) : packLoop (fieldTarget w) = w := by
  rw [packLoop, fieldTarget, BitVec.ofNat_toNat, BitVec.setWidth_eq, ← hc]
  exact opcOf_append_argOf w

/-- The only word of a row without operands is the row's pattern. -/
theorem uopPattern_eq_of_no_operand {o : UopOp} {w : Byte} (hn : uopUnused o = 5)
    (hc : opcOf w = uopOpc o) (hu : w.extractLsb' 0 (uopUnused o) = 0) : uopPattern o = w := by
  rw [hn] at hu
  calc
    uopPattern o = uopOpc o ++ 0#5 := uopPattern_eq o
    _ = opcOf w ++ argOf w := opc_append_arg_eq_iff.2 ⟨hc.symm, hu.symm⟩
    _ = w := opcOf_append_argOf w

/-! ### Decoding and encoding a micro-operation -/

theorem encode_uopInstr {o : UopOp} {w : Byte} (h : uopMatches o w = true) :
    encode (uopInstr o w) = [w] := by
  obtain ⟨hc, hu⟩ := (uopMatches_iff o w).1 h
  cases o with
  | setr => exact congrArg ([·]) (packSetr_fields hc hu)
  | rpt => exact congrArg ([·]) (packRpt_fields hc hu)
  | loop => exact congrArg ([·]) (packLoop_fields hc)
  | wait | acq | dec | halt => exact congrArg ([·]) (uopPattern_eq_of_no_operand rfl hc hu)

theorem uopInstr_wf (o : UopOp) (w : Byte) : (uopInstr o w).wf = true := by
  cases o with
  | setr => exact decide_eq_true (w.extractLsb' 2 3).isLt
  | rpt => exact decide_eq_true (w.extractLsb' 2 3).isLt
  | loop => exact decide_eq_true (w.extractLsb' 0 5).isLt
  | wait | acq | dec | halt => rfl

theorem uopInstr_format (o : UopOp) (w : Byte) : (uopInstr o w).format = .uop8 := by
  cases o <;> rfl

theorem decodeUop_packSetr {ch : Nat} (h : ch < 8) (en : Bool) :
    decodeUop (packSetr ch en) = .ok (.setr ch en) := by
  rw [decodeUop_of_matches (o := .setr)
    ((uopMatches_iff _ _).2 ⟨opcOf_packSetr ch en, unused_packSetr ch en⟩)]
  simp [uopInstr, Nat.mod_eq_of_lt h]

theorem decodeUop_packRpt {lbl : Nat} (h : lbl < 8) : decodeUop (packRpt lbl) = .ok (.rpt lbl) := by
  rw [decodeUop_of_matches (o := .rpt)
    ((uopMatches_iff _ _).2 ⟨opcOf_packRpt lbl, unused_packRpt lbl⟩)]
  simp [uopInstr, Nat.mod_eq_of_lt h]

theorem decodeUop_packLoop {t : Nat} (h : t < 32) : decodeUop (packLoop t) = .ok (.loop t) := by
  rw [decodeUop_of_matches (o := .loop)
    ((uopMatches_iff _ _).2 ⟨opcOf_packLoop t, BitVec.eq_of_zero_length rfl⟩)]
  simp [uopInstr, Nat.mod_eq_of_lt h]

/-- The decoder reads back a micro-operation whose operands fit their fields. -/
theorem decode_encode_uop {i : Instr} (hf : i.format = .uop8) (hw : i.wf = true) :
    decode .uop8 (encode i) = .ok i := by
  cases i with
  | setr ch en => exact decodeUop_packSetr (of_decide_eq_true hw) en
  | rpt lbl => exact decodeUop_packRpt (of_decide_eq_true hw)
  | loop t => exact decodeUop_packLoop (of_decide_eq_true hw)
  | wait => exact decodeUop_of_matches (uopMatches_uopPattern .wait)
  | acq => exact decodeUop_of_matches (uopMatches_uopPattern .acq)
  | dec => exact decodeUop_of_matches (uopMatches_uopPattern .dec)
  | halt => exact decodeUop_of_matches (uopMatches_uopPattern .halt)
  | rd | fltOc | fltScg | fltScv | fltUnk => cases hf

/-! ### Both formats -/

/-- Settles O15: each format by itself (`decode_encode_frame`, `decode_encode_uop`). -/
theorem decodeOfEncodeIsTheInstruction : Obligations.DecodeOfEncodeIsTheInstruction := by
  intro i hw
  cases hf : i.format with
  | frame32 => exact decode_encode_frame hf
  | uop8 => exact decode_encode_uop hf hw

/-- Settles O16: a ROM word has the row it decodes by (`decodeUop_ok_row`), four bytes
are the bytes of their frame. -/
theorem encodeOfDecodeIsTheWord : Obligations.EncodeOfDecodeIsTheWord := by
  refine ⟨fun w i h => ?_, fun b0 b1 b2 b3 => ?_⟩
  · obtain ⟨o, ho, rfl⟩ := decodeUop_ok_row h
    exact ⟨encode_uopInstr ho, uopInstr_wf o w, uopInstr_format o w⟩
  · have he := encode_decodeFrame (frameOfBytes b0 b1 b2 b3)
    rw [bytesOfFrame_frameOfBytes] at he
    exact ⟨_, rfl, he, decodeFrame_wf _, decodeFrame_format _⟩

/-! ### The reserved words (R86) and the reference words (R80) -/

theorem extractLsb'_zero_one_ne_zero_iff (w : Byte) :
    w.extractLsb' 0 1 ≠ 0 ↔ w.getLsbD 0 = true := by
  rw [← ofBool_getLsbD_eq_extractLsb']
  cases w.getLsbD 0 <;> decide

/-- The four clauses of R86. -/
theorem decodeUop_reserved_iff_clauses (w : Byte) :
    decodeUop w = .error (.reservedUop w) ↔
      (opcOf w = 0b000#3 ∨ (opcOf w = 0b001#3 ∧ w.getLsbD 0 = true) ∨
        ((opcOf w = 0b010#3 ∨ opcOf w = 0b011#3 ∨ opcOf w = 0b100#3 ∨ opcOf w = 0b111#3) ∧
          argOf w ≠ 0#5) ∨
        (opcOf w = 0b101#3 ∧ w.extractLsb' 0 2 ≠ 0#2)) := by
  rw [decodeUop_reserved_iff]
  constructor
  · rintro (h | ⟨o, ho, hu⟩)
    · exact .inl h
    · right
      cases o with
      | setr => exact .inl ⟨ho, (extractLsb'_zero_one_ne_zero_iff w).1 hu⟩
      | wait => exact .inr (.inl ⟨.inl ho, hu⟩)
      | acq => exact .inr (.inl ⟨.inr (.inl ho), hu⟩)
      | dec => exact .inr (.inl ⟨.inr (.inr (.inl ho)), hu⟩)
      | halt => exact .inr (.inl ⟨.inr (.inr (.inr ho)), hu⟩)
      | rpt => exact .inr (.inr ⟨ho, hu⟩)
      | loop => exact absurd (BitVec.eq_of_zero_length rfl) hu
  · rintro (h | ⟨ho, hu⟩ | ⟨ho | ho | ho | ho, hu⟩ | ⟨ho, hu⟩)
    · exact .inl h
    · exact .inr ⟨.setr, ho, (extractLsb'_zero_one_ne_zero_iff w).2 hu⟩
    · exact .inr ⟨.wait, ho, hu⟩
    · exact .inr ⟨.acq, ho, hu⟩
    · exact .inr ⟨.dec, ho, hu⟩
    · exact .inr ⟨.halt, ho, hu⟩
    · exact .inr ⟨.rpt, ho, hu⟩

/-- 32 + 16 + 124 + 24 words (R86). -/
theorem reservedWords_count :
    ((List.range 256).filter
      (fun n => (decodeUop (BitVec.ofNat 8 n)).toOption.isNone)).length = 196 := by
  rfl

theorem step_of_reserved {s : State} (hr : s.RUN = .running)
    (hd : decodeUop s.fetch = .error (.reservedUop s.fetch)) :
    step s = .next (s.takeFault .reservedUop) := by
  simp only [step, hr, decode, hd]

/-- Settles O17: the reserved words by their clauses, their count, and the fault of the step, which
does not look at `ERR`. -/
theorem reservedWordsFault : Obligations.ReservedWordsFault :=
  ⟨decodeUop_reserved_iff_clauses, reservedWords_count, fun _ => step_of_reserved⟩

/-- Settles O18: the words and channels are closed terms, on which the decoder and `roleOf`
are run. -/
theorem referenceWordsDecode : Obligations.ReferenceWordsDecode := by
  unfold Obligations.ReferenceWordsDecode
  decide

end Sys2Proof.Machine
end

section
/-! SUPPORT. The two temperatures of a frame (R101 to R107, R116): a count is the signed value of its
whole field, and the word of the decode is that field, sign-extended. -/

namespace Sys2Proof.Machine

/-! ### Concatenations and sign extensions of any width -/

/-- The unsigned value of a concatenation; the signed one is `BitVec.toInt_append`. -/
theorem toNat_append_eq_add {m n : Nat} (x : BitVec m) (y : BitVec n) :
    (x ++ y).toNat = 2 ^ n * x.toNat + y.toNat := by
  rw [BitVec.toNat_append, ← Nat.shiftLeft_add_eq_or_of_lt y.isLt, Nat.shiftLeft_eq, Nat.mul_comm]

/-- A sign extension keeps the bits of the word. -/
theorem extractLsb'_signExtend {w v : Nat} (x : BitVec w) (h : w ≤ v) :
    (x.signExtend v).extractLsb' 0 w = x := by
  apply BitVec.eq_of_getLsbD_eq
  intro i hi
  rw [BitVec.getLsbD_extractLsb', Nat.zero_add, BitVec.getLsbD_signExtend]
  simp only [hi, Nat.lt_of_lt_of_le hi h, decide_true, Bool.true_and, if_true]

/-- A sign extension repeats the sign bit above the word. -/
theorem getLsbD_signExtend_above {w v i : Nat} (x : BitVec w) (hw : w ≤ i) (hv : i < v) :
    (x.signExtend v).getLsbD i = x.msb := by
  rw [BitVec.getLsbD_signExtend, if_neg (Nat.not_lt.mpr hw), decide_eq_true hv, Bool.true_and]

/-! ### The thermocouple count (R102 to R105) -/

section
variable (F : FrameWord)

theorem intPart_append_fracPart : intPart F ++ fracPart F = fieldTc14 F :=
  BitVec.extractLsb'_append_extractLsb'_eq_extractLsb' rfl

theorem msb_fieldTc14 : (fieldTc14 F).msb = F.getLsbD 31 := by
  simp [fieldTc14, BitVec.msb_eq_getLsbD_last]

/-- R105: the sum of integer part and fraction is the signed value of the field. -/
theorem tcQ_eq_toInt_field : tcQ F = (fieldTc14 F).toInt := by
  rw [← intPart_append_fracPart, BitVec.toInt_append]
  rfl

theorem toInt_decodeTriple_tc : (decodeTriple F).tc.toInt = tcQ F := by
  rw [tcQ_eq_toInt_field]
  exact BitVec.toInt_signExtend_of_le (by decide)

theorem tcQ_range : -8192 ≤ tcQ F ∧ tcQ F ≤ 8191 := by
  have hlo : -2 ^ 13 ≤ (fieldTc14 F).toInt := BitVec.le_toInt _
  have hhi : (fieldTc14 F).toInt < 2 ^ 13 := BitVec.toInt_lt
  rw [tcQ_eq_toInt_field]
  omega

/-! ### The internal count (R106, R107) -/

theorem intInt_append_fracInt : intInt F ++ fracInt F = fieldCj12 F :=
  BitVec.extractLsb'_append_extractLsb'_eq_extractLsb' rfl

theorem msb_fieldCj12 : (fieldCj12 F).msb = F.getLsbD 15 := by
  simp [fieldCj12, BitVec.msb_eq_getLsbD_last]

/-- R107: the sum of integer part and fraction is the signed value of the field. -/
theorem cjQ_eq_toInt_field : cjQ F = (fieldCj12 F).toInt := by
  rw [← intInt_append_fracInt, BitVec.toInt_append]
  rfl

theorem toInt_decodeTriple_cj : (decodeTriple F).cj.toInt = cjQ F := by
  rw [cjQ_eq_toInt_field]
  exact BitVec.toInt_signExtend_of_le (by decide)

theorem cjQ_range : -2048 ≤ cjQ F ∧ cjQ F ≤ 2047 := by
  have hlo : -2 ^ 11 ≤ (fieldCj12 F).toInt := BitVec.le_toInt _
  have hhi : (fieldCj12 F).toInt < 2 ^ 11 := BitVec.toInt_lt
  rw [cjQ_eq_toInt_field]
  omega

end

/-- Settles O3: `tcQ` is the signed value of the field (`tcQ_eq_toInt_field`), and `tc` is the
field, sign-extended. -/
theorem thermocoupleWordIsTheSignedSum : Obligations.ThermocoupleWordIsTheSignedSum := by
  intro F
  have hsign {k : Nat} (hk : 14 ≤ k) (hk' : k < 16) :
      (decodeTriple F).tc.getLsbD k = F.getLsbD 31 :=
    (getLsbD_signExtend_above (fieldTc14 F) hk hk').trans (msb_fieldTc14 F)
  have htc := toInt_decodeTriple_tc F
  exact ⟨htc, tcQ_eq_toInt_field F, htc, extractLsb'_signExtend (fieldTc14 F) (by decide),
    hsign (by decide) (by decide), hsign (by decide) (by decide), htc ▸ tcQ_range F⟩

/-- Settles O4: `cjQ` is the signed value of the field (`cjQ_eq_toInt_field`), and `cj` is the
field, sign-extended. -/
theorem internalWordIsTheSignedSum : Obligations.InternalWordIsTheSignedSum := by
  intro F
  have hsign {k : Nat} (hk : 12 ≤ k) (hk' : k < 16) :
      (decodeTriple F).cj.getLsbD k = F.getLsbD 15 :=
    (getLsbD_signExtend_above (fieldCj12 F) hk hk').trans (msb_fieldCj12 F)
  have hcj := toInt_decodeTriple_cj F
  exact ⟨hcj, cjQ_eq_toInt_field F, hcj, extractLsb'_signExtend (fieldCj12 F) (by decide),
    hsign (by decide) (by decide), hsign (by decide) (by decide), hsign (by decide) (by decide),
    hsign (by decide) (by decide), hcj ▸ cjQ_range F⟩

/-! ### Counts and fields, one to one (R116) -/

/-- A frame without a fault that carries the two fields. -/
def readingFrame (tc14 : BitVec 14) (cj12 : BitVec 12) : FrameWord :=
  packFrame tc14 false false cj12 false false false false

theorem tcQ_readingFrame {z : Int} (hlo : -8192 ≤ z) (hhi : z ≤ 8191) (cj12 : BitVec 12) :
    tcQ (readingFrame (BitVec.ofInt 14 z) cj12) = z := by
  rw [tcQ_eq_toInt_field, readingFrame, fieldTc14_packFrame]
  exact BitVec.toInt_ofInt_eq_self (by decide) hlo (Int.lt_add_one_of_le hhi)

theorem cjQ_readingFrame {z : Int} (hlo : -2048 ≤ z) (hhi : z ≤ 2047) (tc14 : BitVec 14) :
    cjQ (readingFrame tc14 (BitVec.ofInt 12 z)) = z := by
  rw [cjQ_eq_toInt_field, readingFrame, fieldCj12_packFrame]
  exact BitVec.toInt_ofInt_eq_self (by decide) hlo (Int.lt_add_one_of_le hhi)

/-- Settles O14: a count in range is reached by the frame that carries its two's complement, and a
signed value determines its field. -/
theorem temperatureMapsAreBijections : Obligations.TemperatureMapsAreBijections := by
  simp only [Obligations.TemperatureMapsAreBijections, toInt_decodeTriple_tc,
    toInt_decodeTriple_cj]
  refine ⟨fun z hlo hhi => ⟨_, tcQ_readingFrame hlo hhi 0#12⟩, fun F G h => ?_,
    fun z hlo hhi => ⟨_, cjQ_readingFrame hlo hhi 0#14⟩, fun F G h => ?_⟩
  · rw [tcQ_eq_toInt_field, tcQ_eq_toInt_field] at h
    exact BitVec.toInt_inj.mp h
  · rw [cjQ_eq_toInt_field, cjQ_eq_toInt_field] at h
    exact BitVec.toInt_inj.mp h

end Sys2Proof.Machine
end

section
/-! SUPPORT. The fault status and the result of a decode (R109, R115, R117), the printed literals
against it (R118), and what a frame class and a report make of it (R110 to R114, R155). -/

namespace Sys2Proof.Machine

/-! ### The fault status (R109) -/

/-- The priority chain of R109 on the bits of the frame. -/
theorem fsOf_eq_of_bits (F : FrameWord) :
    fsOf F =
      if F.getLsbD 16 = false then .none
      else if F.getLsbD 0 then .openCircuit
      else if F.getLsbD 1 then .shortToGround
      else if F.getLsbD 2 then .shortToVcc
      else .unknownFault :=
  rfl

theorem fsOf_of_flag_clear {F : FrameWord} (h : F.getLsbD 16 = false) : fsOf F = .none := by
  rw [fsOf_eq, classOf_of_flag_clear h, classStatus]

theorem classStatus_injective : Function.Injective classStatus := by
  intro c d h
  cases c <;> cases d <;> simp_all [classStatus]

theorem fsOf_eq_classStatus_iff (F : FrameWord) (c : FrameClass) :
    fsOf F = classStatus c ↔ classOf F = c := by
  rw [fsOf_eq, classStatus_injective.eq_iff]

/-- Settles O6: each clause is one way through the priority chain. -/
theorem faultStatusPriority : Obligations.FaultStatusPriority := by
  intro F
  rw [fsOf_eq_of_bits]
  refine ⟨fun h16 => ?_, fun h16 h0 => ?_, fun h16 h0 h1 => ?_, fun h16 h0 h1 h2 => ?_,
    fun h16 h0 h1 h2 => ?_⟩
  · rw [h16]; rfl
  · rw [h16, h0]; rfl
  · rw [h16, h0, h1]; rfl
  · rw [h16, h0, h1, h2]; rfl
  · rw [h16, h0, h1, h2]; rfl

/-- Settles O7: the status of a frame is the status of its class, and no two classes share one. -/
theorem faultStatusIsTheFrameClass : Obligations.FaultStatusIsTheFrameClass := fun F =>
  ⟨fsOf_eq_classStatus_iff F .rd, fsOf_eq_classStatus_iff F .fltOc,
    fsOf_eq_classStatus_iff F .fltScg, fsOf_eq_classStatus_iff F .fltScv,
    fsOf_eq_classStatus_iff F .fltUnk⟩

/-! ### The result of a decode (R115) -/

theorem decodeResult_of_no_fault {F : FrameWord} (h : fsOf F = .none) :
    decodeResult F = .ok { tcQ := tcQ F, cjQ := cjQ F } := by
  rw [decodeResult, if_pos h, tcQ_eq_toInt_field, cjQ_eq_toInt_field]

theorem decodeResult_of_fault {F : FrameWord} (h : fsOf F ≠ .none) :
    decodeResult F = .error (fsOf F) :=
  if_neg h

/-- Settles O11: the two counts of the reading are the signed fields. -/
theorem readingOnlyWithoutFault : Obligations.ReadingOnlyWithoutFault := by
  intro F
  refine ⟨fun h => ?_, decodeResult_of_fault⟩
  rw [decodeResult_of_no_fault h, tcQ_eq_toInt_field, cjQ_eq_toInt_field]
  rfl

/-! ### The fractional components (R117) -/

/-- The fractional part of a quotient of integers is the remainder over the divisor. -/
theorem div_sub_floor_eq_emod_div (z : Int) (n : Nat) :
    (z : ℚ) / n - ⌊(z : ℚ) / n⌋ = ((z % n : Int) : ℚ) / n := by
  rw [Int.self_sub_floor, Int.fract_div_intCast_eq_div_intCast_mod]

theorem tcQ_emod (F : FrameWord) : tcQ F % 4 = (fracPart F).toNat := by
  have hfrac : (fracPart F).toNat < 4 := (fracPart F).isLt
  rw [tcQ]
  omega

theorem cjQ_emod (F : FrameWord) : cjQ F % 16 = (fracInt F).toNat := by
  have hfrac : (fracInt F).toNat < 16 := (fracInt F).isLt
  rw [cjQ]
  omega

/-- Settles O12: the integer part is a multiple of the unit, so that the remainder is the
fraction. -/
theorem fractionalComponents : Obligations.FractionalComponents := by
  intro F
  have htc := div_sub_floor_eq_emod_div (tcQ F) 4
  have hcj := div_sub_floor_eq_emod_div (cjQ F) 16
  push_cast [tcQ_emod, cjQ_emod] at htc hcj
  exact ⟨tcQ_emod F, cjQ_emod F, htc, hcj,
    fun h => decodeResult_of_no_fault (fsOf_of_flag_clear h)⟩

/-! ### The printed literals (R118) -/

theorem litTcQ_eq_toNat_field (F : FrameWord) : litTcQ F = (fieldTc14 F).toNat := by
  rw [← intPart_append_fracPart, toNat_append_eq_add]
  rfl

/-- The printed thermocouple count is the block's without the sign. -/
theorem litTcQ_eq (F : FrameWord) :
    (litTcQ F : Int) = tcQ F + if F.getLsbD 31 then 16384 else 0 := by
  rw [litTcQ_eq_toNat_field, tcQ_eq_toInt_field, BitVec.toInt_eq_msb_cond, msb_fieldTc14]
  split <;> simp

/-- The printed shift by 9 and mask of five bits cut the internal field at bit 9, not at bit 8. -/
theorem cjQ_eq_of_printed_cut (F : FrameWord) :
    cjQ F = 32 * (F.extractLsb' 9 7).toNat + (F.extractLsb' 4 5).toNat -
      4096 * (if F.getLsbD 15 then 1 else 0) := by
  have hcut : F.extractLsb' 9 7 ++ F.extractLsb' 4 5 = fieldCj12 F :=
    BitVec.extractLsb'_append_extractLsb'_eq_extractLsb' rfl
  rw [cjQ_eq_toInt_field, BitVec.toInt_eq_msb_cond, msb_fieldCj12, ← hcut, toNat_append_eq_add]
  split <;> simp

theorem cjQ_sub_litCjQ (F : FrameWord) :
    cjQ F - litCjQ F =
      16 * (F.extractLsb' 9 7).toNat - 4096 * (if F.getLsbD 15 then 1 else 0) := by
  rw [cjQ_eq_of_printed_cut, litCjQ]
  omega

/-- The sign bit of the internal field is the top bit of what the printed shift keeps. -/
theorem sign_clear_of_shifted_zero {F : FrameWord} (h : F.extractLsb' 9 7 = 0#7) :
    F.getLsbD 15 = false := by
  have hbit : (F.extractLsb' 9 7).getLsbD 6 = F.getLsbD 15 := by simp
  rw [← hbit, h]
  rfl

theorem litCjQ_eq_cjQ_iff (F : FrameWord) :
    (litCjQ F : Int) = cjQ F ↔ F.extractLsb' 9 7 = 0#7 := by
  have hdiff := cjQ_sub_litCjQ F
  have hlt : (F.extractLsb' 9 7).toNat < 128 := (F.extractLsb' 9 7).isLt
  constructor
  · intro h
    apply BitVec.eq_of_toNat_eq
    rw [BitVec.toNat_ofNat]
    split at hdiff <;> omega
  · intro h
    rw [h, sign_clear_of_shifted_zero h] at hdiff
    exact (Int.sub_eq_zero.mp hdiff).symm

/-- Settles O13: the thermocouple counts differ by the sign (`litTcQ_eq`), the internal counts by
the cut of the field (`cjQ_sub_litCjQ`). -/
theorem printedLiteralsAgainstTheDecode : Obligations.PrintedLiteralsAgainstTheDecode := by
  refine ⟨fun F => ?_, by decide⟩
  have htc := litTcQ_eq F
  have hfield : (fieldTc14 F).toNat < 16384 := (fieldTc14 F).isLt
  have hhigh : (F.extractLsb' 9 7).toNat < 128 := (F.extractLsb' 9 7).isLt
  have hlow : (F.extractLsb' 4 5).toNat < 32 := (F.extractLsb' 4 5).isLt
  refine ⟨rfl, litTcQ_eq_toNat_field F, ?_, rfl, ?_, rfl, ?_, fun h31 => ?_,
    litCjQ_eq_cjQ_iff F, cjQ_sub_litCjQ F⟩
  · rw [litTcQ_eq_toNat_field]
    omega
  · rw [litCjQ]
    omega
  · rw [htc]
    cases F.getLsbD 31 <;> simp
  · rw [htc, h31]
    rfl

/-! ### A frame class, executed (R110 to R114) -/

/-- Settles O23: each class latches its two sign-extended fields with its status and advances. -/
theorem frameClassResults : Obligations.FrameClassResults :=
  fun _ _ _ _ _ _ _ _ => ⟨rfl, rfl, rfl, rfl, rfl⟩

/-! ### A reported reading (R155) -/

section
variable {s t : State}

theorem reportRecord_eq_reading {tc cj : Count} (h : s.reportRecord = some (.reading tc cj)) :
    s.ERR = .none ∧ s.DV = true ∧ s.RV = true ∧ s.TC = tc ∧ s.CJ = cj := by
  unfold State.reportRecord at h
  split_ifs at h with herr hval hdv
  · cases h
  · cases h
    obtain ⟨hd, hr⟩ := Bool.and_eq_true_iff.mp hval
    exact ⟨not_ne_iff.mp herr, hd, hr, rfl, rfl⟩
  · cases h

/-- The event that `RPT` adds to the trace carries the record of the state before it. -/
theorem execRpt_reportRecord {lbl : Nat} {l : BitVec 3} {r : ReportRecord}
    (hx : execRpt lbl s = .next t) (htr : t.TRACE = s.TRACE ++ [.report l r]) :
    s.reportRecord = some r := by
  obtain ⟨r', hr, rfl⟩ | ⟨-, -, rfl⟩ := execRpt_cases hx
  · simp only [advance_TRACE, closePhase_TRACE, svcReport_TRACE, List.append_cancel_left_eq,
      List.cons.injEq, Event.report.injEq, and_true] at htr
    rw [hr, htr.2]
  · simp at htr

end

/-- Settles O48: a reading is reported with `DV` and `RV` set only, where the invariant makes `FS`
None and the registers the decode of `FRAME`. -/
theorem reportedReadingIsTheDecodeOfTheFrame :
    Obligations.ReportedReadingIsTheDecodeOfTheFrame := by
  intro lbl l tc cj s t hinv hx htr
  obtain ⟨herr, hdv, hrv, rfl, rfl⟩ := reportRecord_eq_reading (execRpt_reportRecord hx htr)
  obtain ⟨htc, hcj, hfs⟩ := hinv.dvDecode hdv
  have hnone : fsOf s.FRAME = .none := hfs.symm.trans (hinv.rv.mp hrv).2
  refine ⟨herr, hnone, ?_⟩
  rw [decodeResult_of_no_fault hnone, htc, hcj, toInt_decodeTriple_tc, toInt_decodeTriple_cj]

end Sys2Proof.Machine
end

section
/-! SUPPORT. `SETR` by the answers of its four calls (R136), and the shadow relay state it leaves
(R137, R138). -/

namespace Sys2Proof.Machine

/-! ### The operands -/

/-- Settles O32: `roleOf` and `roleCode` at each value of their operands. -/
theorem channelRoles : Obligations.ChannelRoles :=
  ⟨rfl, rfl, rfl, rfl, rfl, rfl, rfl, rfl, rfl, rfl, rfl⟩

/-- The word that decodes to `SETR ch, en` is the one that encodes it (R57). -/
theorem decodeUop_eq_setr_iff {w : Byte} {ch : Nat} {en : Bool} (h : ch < 8) :
    decodeUop w = .ok (.setr ch en) ↔ w = packSetr ch en := by
  constructor
  · intro hd
    exact (List.singleton_inj.1 (encodeOfDecodeIsTheWord.1 w _ hd).1).symm
  · rintro rfl
    exact decodeUop_packSetr h en

/-! ### The four calls (R136) -/

section
variable {ch : Nat} {en : Bool} {role : Role} {p : PinId} {s : State}

theorem exec_setr (ch : Nat) (en : Bool) (s : State) : exec (.setr ch en) s = execSetr ch en s := rfl

theorem setRelay_svcLookupPin (v : RelayState) :
    (s.svcLookupPin role).2.setRelay ch v = { s.setRelay ch v with
      calls := { s.calls with lookups := s.calls.lookups + 1 }
      TRACE := s.TRACE ++ [.lookupPin s.inp.SOCKET role s.lookupAnswer] } :=
  setRelay_with s ch v _ _

variable (hr : roleOf ch = .ok role) (hrun : s.ERR = .none ∨ en = false)
include hr hrun

theorem exec_setr_of_lookup_err (hl : s.lookupAnswer = .err) :
    exec (.setr ch en) s = .next { s.setRelay ch .unknown with
      ERR := if s.ERR = .none then .pinLookupFailed else s.ERR, upc := s.upc + 1#5,
      calls := { s.calls with lookups := s.calls.lookups + 1 },
      TRACE := s.TRACE ++ [.lookupPin s.inp.SOCKET role .err] } := by
  rw [exec_setr, execSetr_of_role hr hrun, hl]
  simp [setRelay_svcLookupPin, State.raise, hl]

theorem exec_setr_of_lookup_ok (hl : s.lookupAnswer = .ok p) :
    exec (.setr ch en) s = .next ((s.svcLookupPin role).2.drivePin ch en p) := by
  rw [exec_setr, execSetr_of_role hr hrun, hl]

end

/-- Settles O31: the failed lookup, and the closed form of the pin calls at each one that fails. -/
theorem setrStopsAtTheFirstFailingCall : Obligations.SetrStopsAtTheFirstFailingCall := by
  intro ch en role s hr hrun
  refine ⟨exec_setr_of_lookup_err hr hrun, fun p hl h0 => ?_, fun p hl h0 h1 => ?_,
    fun p hl h0 h1 h2 => ?_⟩
  · rw [exec_setr_of_lookup_ok hr hrun hl, drivePin_eq, svcLookupPin_ERR]
    simp [setRelay_svcLookupPin, hl, h0]
  · rw [exec_setr_of_lookup_ok hr hrun hl, drivePin_eq, svcLookupPin_ERR]
    simp [setRelay_svcLookupPin, hl, h0, h1]
  · rw [exec_setr_of_lookup_ok hr hrun hl, drivePin_eq, svcLookupPin_ERR]
    simp [setRelay_svcLookupPin, hl, h0, h1, h2]

/-- Settles O30: the word is the encoding, and the closed form of the pin calls when all answer `Ok`. -/
theorem setrSetsTheRelay : Obligations.SetrSetsTheRelay := by
  refine ⟨fun w ch en h => decodeUop_eq_setr_iff h, fun ch en role p s hr hrun hl h0 h1 h2 => ?_⟩
  rw [exec_setr_of_lookup_ok hr hrun hl, drivePin_eq]
  simp [setRelay_svcLookupPin, hl, h0, h1, h2]

/-! ### The cells (R137) -/

section
variable {ch c : Nat} {en : Bool} {role : Role} {s t : State}

theorem roleOf_of_relay {v : RelayState} (h : s.relay ch = some v) :
    ∃ role, roleOf ch = .ok role := by
  unfold State.relay at h
  split at h
  · exact ⟨.pwm, rfl⟩
  · exact ⟨.reset, rfl⟩
  · exact ⟨.analog, rfl⟩
  · cases h

theorem RelayDriven.relay_of_ne (hd : RelayDriven s t ch en) (hc : c ≠ ch) :
    t.relay c = s.relay c := by
  obtain ⟨-, _, _, rfl⟩ | ⟨_, _, _, -, -, rfl⟩ := hd.outcome
  · exact relay_setRelay_of_ne s _ hc
  · exact relay_setRelay_of_ne s _ hc

theorem exec_setr_relay_of_ne (h : exec (.setr ch en) s = .next t) (hc : c ≠ ch) :
    t.relay c = s.relay c := by
  obtain ⟨-, -, rfl⟩ | ⟨_, -, -, -, rfl⟩ | ⟨_, -, -, hd⟩ := execSetr_cases h
  · rfl
  · rfl
  · exact hd.relay_of_ne hc

theorem exec_setr_relay_of_suppressed (h : exec (.setr ch en) s = .next t) (he : s.ERR ≠ .none)
    (hen : en = true) : t.relay c = s.relay c := by
  rw [exec_of_skip ((skip_iff s).2 he) (.inl ⟨ch, by rw [hen]⟩)] at h
  cases h
  rfl

theorem exec_setr_relay_of_no_role {e : ResolveError} (h : exec (.setr ch en) s = .next t)
    (hr : roleOf ch = .error e) : t.relay c = s.relay c := by
  obtain ⟨-, -, rfl⟩ | ⟨_, -, -, -, rfl⟩ | ⟨role, hrole, -, -⟩ := execSetr_cases h
  · rfl
  · rfl
  · rw [hr] at hrole
    cases hrole

/-- One of the four calls fails: which one decides the error, the calls made and the trace only. -/
theorem exec_setr_of_failing_call (hr : roleOf ch = .ok role) (hrun : s.ERR = .none ∨ en = false)
    (hfail : ¬ (s.lookupAnswer ≠ .err ∧ s.pinAnswer 0 = .ok ∧ s.pinAnswer 1 = .ok ∧
      s.pinAnswer 2 = .ok)) :
    ∃ e calls tr, exec (.setr ch en) s = .next { s.setRelay ch .unknown with
      ERR := e, upc := s.upc + 1#5, calls := calls, TRACE := tr } := by
  obtain ⟨hlookup, hinit, hdir, hval⟩ := setrStopsAtTheFirstFailingCall ch en role s hr hrun
  cases hl : s.lookupAnswer with
  | err => exact ⟨_, _, _, hlookup hl⟩
  | ok p =>
    cases h0 : s.pinAnswer 0 with
    | err => exact ⟨_, _, _, hinit p hl h0⟩
    | ok =>
      cases h1 : s.pinAnswer 1 with
      | err => exact ⟨_, _, _, hdir p hl h0 h1⟩
      | ok =>
        cases h2 : s.pinAnswer 2 with
        | err => exact ⟨_, _, _, hval p hl h0 h1 h2⟩
        | ok => exact absurd ⟨by simp [hl], h0, h1, h2⟩ hfail

end

/-- Settles O35: a `SETR` writes no cell but its own, and that one only where its channel has a role
and it is not suppressed; then the state it leaves is that of O30 or of O31. -/
theorem shadowRelayStateUnderSetr : Obligations.ShadowRelayStateUnderSetr := by
  intro ch en s t h
  refine ⟨fun c => exec_setr_relay_of_ne h, exec_setr_relay_of_suppressed h,
    fun e => exec_setr_relay_of_no_role h, fun role hr hrun => ⟨?_, fun hfail => ?_⟩⟩
  · rintro ⟨hl, h0, h1, h2⟩
    cases hp : s.lookupAnswer with
    | err => exact absurd hp hl
    | ok p =>
      rw [setrSetsTheRelay.2 ch en role p s hr hrun hp h0 h1 h2] at h
      cases h
      exact relay_setRelay_of_role s _ hr
  · obtain ⟨e, calls, tr, hx⟩ := exec_setr_of_failing_call hr hrun hfail
    rw [hx] at h
    cases h
    exact relay_setRelay_of_role s _ hr

/-- Settles O36: a channel with a cell has a role, and a `SETR` whose calls answer `Ok` writes the
value that the cell already has (O30). -/
theorem redundantSetrSucceeds : Obligations.RedundantSetrSucceeds := by
  rintro ch en s ⟨⟨p, hl⟩, h0, h1, h2⟩ hrun hcell
  obtain ⟨role, hr⟩ := roleOf_of_relay hcell
  refine ⟨_, role, p, setrSetsTheRelay.2 ch en role p s hr hrun hl h0 h1 h2, hr, ?_,
    setRelay_ERR s ch _, rfl, rfl⟩
  rw [hcell]
  exact relay_setRelay_of_role s _ hr

end Sys2Proof.Machine
end

section
/-! SUPPORT. What a step does with the fetched word (R150), and what each of the other
micro-operations leaves (R152 to R157): the whole next state in each of its cases. -/

namespace Sys2Proof.Machine

variable {i : Instr} {s t : State}

/-! ### The step, and the instruction's end (R150, R166) -/

theorem step_of_decode (hr : s.RUN = .running) (hd : decodeUop s.fetch = .ok i) :
    step s = exec i s := by
  simp only [step, hr, decode, hd]

/-- Settles O21: the three cases of `step`; a rejected word is a reserved one. -/
theorem stepRunsTheDecodedMicroOperation : Obligations.StepRunsTheDecodedMicroOperation := by
  intro s
  refine ⟨fun i hr hd => step_of_decode hr hd, fun e hr hd => ?_, fun hr t hst => ?_⟩
  · have hw := decodeUop_error hd
    exact step_of_reserved hr (hw ▸ hd)
  · exact hr (step_cases hst).1

/-- Settles O39: every branch of every meaning answers a next state, a sequencer fault included. -/
theorem everyInstructionEndsInANextState : Obligations.EveryInstructionEndsInANextState := by
  intro i s
  cases i with
  | setr ch en =>
    change ∃ t, execSetr ch en s = .next t
    unfold execSetr
    split
    · exact ⟨_, rfl⟩
    · split <;> exact ⟨_, rfl⟩
  | wait =>
    change ∃ t, execWait s = .next t
    unfold execWait
    split <;> exact ⟨_, rfl⟩
  | acq =>
    change ∃ t, execAcq s = .next t
    unfold execAcq
    split
    · exact ⟨_, rfl⟩
    · split <;> exact ⟨_, rfl⟩
  | dec =>
    change ∃ t, execDec s = .next t
    unfold execDec
    split
    · exact ⟨_, rfl⟩
    · split
      · exact ⟨_, runFrame_eq s.FRAME s⟩
      · exact ⟨_, rfl⟩
  | rpt lbl =>
    change ∃ t, execRpt lbl s = .next t
    unfold execRpt
    split <;> exact ⟨_, rfl⟩
  | loop a =>
    change ∃ t, execLoop a s = .next t
    unfold execLoop
    split <;> exact ⟨_, rfl⟩
  | _ => exact ⟨_, rfl⟩

/-- While the machine runs it has a next state: a decoded instruction ends (R166), a reserved word
is a sequencer fault. -/
theorem step_next_of_running (hr : s.RUN = .running) : ∃ t, step s = .next t := by
  cases hd : decodeUop s.fetch with
  | ok i =>
    rw [step_of_decode hr hd]
    exact everyInstructionEndsInANextState i s
  | error e =>
    rw [decodeUop_error hd] at hd
    exact ⟨_, step_of_reserved hr hd⟩

/-- A word decodes to an instruction exactly when it is the word that encodes it. -/
theorem decodeUop_eq_ok_iff {w v : Byte} (hf : i.format = .uop8) (hw : i.wf = true)
    (he : encode i = [v]) : decodeUop w = .ok i ↔ w = v := by
  constructor
  · intro hd
    exact List.singleton_inj.1 ((encodeOfDecodeIsTheWord.1 w i hd).1.symm.trans he)
  · rintro rfl
    exact (congrArg (decode .uop8) he).symm.trans (decode_encode_uop hf hw)

theorem not_skip (he : s.ERR = .none) : ¬ s.skip = true := by simp [skip_iff, he]

/-! ### `WAIT` (R152) -/

/-- Settles O24: the two values of `skip`. -/
theorem waitResult : Obligations.WaitResult :=
  ⟨fun _ => decodeUop_eq_ok_iff rfl rfl rfl, fun s =>
    ⟨fun he => exec_of_skip ((skip_iff s).2 he) (.inr (.inl rfl)), fun he => if_neg (not_skip he)⟩⟩

/-! ### `ACQ` (R153) -/

theorem raise_of_no_error (he : s.ERR = .none) (e : ErrCode) :
    s.raise e = { s with ERR := e, upc := s.upc + 1#5 } := by
  rw [State.raise, if_pos he]

/-- Any answer but four bytes is a failure of the transfer (R56). -/
theorem execAcq_of_failure (he : s.ERR = .none)
    (hb : ∀ b0 b1 b2 b3 : Byte, s.busAnswer ≠ .ok [b0, b1, b2, b3]) :
    execAcq s = .next { s with
      FV := false, DV := false, RV := false, ERR := .busTransferFailure, upc := s.upc + 1#5,
      calls := { s.calls with transfers := s.calls.transfers + 1 },
      TRACE := s.TRACE ++ [.transfer none 4 s.busAnswer] } := by
  have hraise := raise_of_no_error (s := s.invalidateDecode.svcTransfer.2.invalidateFrame) he
    .busTransferFailure
  rw [execAcq, if_neg (not_skip he)]
  split
  · next b0 b1 b2 b3 s1 heq => exact absurd (congrArg Prod.fst heq) (hb b0 b1 b2 b3)
  · next s1 _ heq =>
    obtain rfl : s.invalidateDecode.svcTransfer.2 = s1 := congrArg Prod.snd heq
    exact congrArg Host.Outcome.next hraise
  · next s1 heq =>
    obtain rfl : s.invalidateDecode.svcTransfer.2 = s1 := congrArg Prod.snd heq
    exact congrArg Host.Outcome.next hraise

/-- Settles O25: four bytes are captured (`execAcq_of_fourBytes`), any other answer is a failure. -/
theorem acqResult : Obligations.AcqResult := by
  refine ⟨fun _ => decodeUop_eq_ok_iff rfl rfl rfl, fun s =>
    ⟨fun he => exec_of_skip ((skip_iff s).2 he) (.inr (.inr (.inl rfl))),
      fun b0 b1 b2 b3 he hb => ?_, fun bytes he hb hlen => ?_, fun he hb => ?_⟩⟩
  · rw [← hb]
    exact execAcq_of_fourBytes he hb
  · rw [← hb]
    refine execAcq_of_failure he fun b0 b1 b2 b3 h4 => hlen ?_
    rw [BusAnswer.ok.inj (hb.symm.trans h4)]
    rfl
  · rw [← hb]
    exact execAcq_of_failure he fun b0 b1 b2 b3 h4 => by simp [hb] at h4

/-! ### `DEC` (R154) -/

theorem runFrame_eq_exec (F : FrameWord) (s : State) : runFrame F s = exec (decodeFrame F) s := by
  unfold runFrame decodeFrame
  cases classOf F <;> rfl

theorem execDec_of_captured (he : s.ERR = .none) (hf : s.FV = true) :
    execDec s = runFrame s.FRAME s := by
  rw [execDec, if_neg (not_skip he), if_pos hf]

theorem execDec_of_no_frame (he : s.ERR = .none) (hf : s.FV = false) :
    execDec s = .next (s.takeFault .frameNotValid) := by
  rw [execDec, if_neg (not_skip he), if_neg (by simp [hf])]

/-- Settles O22: the FrameDecoder and `exec` make the same choice by the class of the frame. -/
theorem decRunsTheCapturedFrame : Obligations.DecRunsTheCapturedFrame := fun s he hf =>
  (execDec_of_captured he hf).trans (runFrame_eq_exec s.FRAME s)

/-- Settles O26: with a captured frame `DEC` latches its decode (`runFrame_eq`). -/
theorem decResult : Obligations.DecResult :=
  ⟨fun _ => decodeUop_eq_ok_iff rfl rfl rfl, fun s =>
    ⟨fun he => exec_of_skip ((skip_iff s).2 he) (.inr (.inr (.inr rfl))), execDec_of_no_frame,
      fun he hf => (execDec_of_captured he hf).trans (runFrame_eq s.FRAME s)⟩⟩

/-! ### `RPT` (R155) -/

theorem reportRecord_of_error (he : s.ERR ≠ .none) : s.reportRecord = some (.error s.ERR) :=
  if_pos he

theorem reportRecord_of_reading (he : s.ERR = .none) (hd : s.DV = true) (hv : s.RV = true) :
    s.reportRecord = some (.reading s.TC s.CJ) := by
  simp [State.reportRecord, he, hd, hv]

theorem reportRecord_of_sensorFault (he : s.ERR = .none) (hd : s.DV = true) (hv : s.RV = false) :
    s.reportRecord = some (.sensorFault s.FS) := by
  simp [State.reportRecord, he, hd, hv]

theorem reportRecord_of_nothing (he : s.ERR = .none) (hd : s.DV = false) :
    s.reportRecord = none := by
  simp [State.reportRecord, he, hd]

theorem reportRecord_eq_sensorFault {fs : FaultStatus}
    (h : s.reportRecord = some (.sensorFault fs)) :
    s.DV = true ∧ s.RV = false ∧ s.FS = fs := by
  unfold State.reportRecord at h
  split_ifs at h with herr hval hdv
  · cases h
  · cases h
  · cases h
    exact ⟨hdv, by simpa [hdv] using hval, rfl⟩

theorem reportRecord_eq_error {e : ErrCode} (h : s.reportRecord = some (.error e)) :
    s.ERR ≠ .none ∧ s.ERR = e := by
  unfold State.reportRecord at h
  split_ifs at h with herr hval hdv
  · cases h
    exact ⟨herr, rfl⟩
  · cases h
  · cases h

theorem fsCode_range {fs : FaultStatus} (h : fs ≠ .none) :
    1 ≤ (fsCode fs).toNat ∧ (fsCode fs).toNat ≤ 4 := by
  cases fs with
  | none => exact absurd rfl h
  | openCircuit | shortToGround | shortToVcc | unknownFault => decide

theorem errCode_range {e : ErrCode} (h : e ≠ .none) :
    1 ≤ (errCode e).toNat ∧ (errCode e).toNat ≤ 5 := by
  cases e with
  | none => exact absurd rfl h
  | busTransferFailure | reservedChannel | invalidChannel | pinLookupFailed | gpioFailure => decide

/-- With the invariants a sensor fault to report is the captured frame's, and it is a fault, since a
decode without one is a reading. -/
theorem State.Inv.sensorFault_of_frame (h : s.Inv) {fs : FaultStatus}
    (hrec : s.reportRecord = some (.sensorFault fs)) : fs ≠ .none ∧ fs = fsOf s.FRAME := by
  obtain ⟨hd, hv, rfl⟩ := reportRecord_eq_sensorFault hrec
  obtain ⟨-, -, hfs⟩ := h.dvDecode hd
  exact ⟨fun hn => by simp [h.rv.2 ⟨hd, hn⟩] at hv, hfs⟩

theorem error_range_of_reportRecord {e : ErrCode} (h : s.reportRecord = some (.error e)) :
    1 ≤ (errCode e).toNat ∧ (errCode e).toNat ≤ 5 := by
  obtain ⟨he, rfl⟩ := reportRecord_eq_error h
  exact errCode_range he

/-- Settles O49: the record is the one of the state before the `RPT` (`execRpt_reportRecord`). -/
theorem reportedCodesAreInRange : Obligations.ReportedCodesAreInRange := by
  intro lbl l s t hinv hx
  refine ⟨fun fs htr => ?_, fun e htr => ?_⟩
  · obtain ⟨hn, hfs⟩ := hinv.sensorFault_of_frame (execRpt_reportRecord hx htr)
    obtain ⟨hlo, hhi⟩ := fsCode_range hn
    exact ⟨hlo, hhi, hfs⟩
  · have hrec := execRpt_reportRecord hx htr
    obtain ⟨hlo, hhi⟩ := error_range_of_reportRecord hrec
    exact ⟨hlo, hhi, (reportRecord_eq_error hrec).2.symm⟩

theorem execRpt_of_record {lbl : Nat} {r : ReportRecord} (h : s.reportRecord = some r) :
    execRpt lbl s = .next (s.svcReport (BitVec.ofNat 3 lbl) r).closePhase.advance := by
  rw [execRpt, h]

theorem execRpt_of_nothing {lbl : Nat} (h : s.reportRecord = none) :
    execRpt lbl s = .next (s.takeFault .nothingToReport) := by
  rw [execRpt, h]

/-- After a `RPT` that reported there is no frame to decode. -/
theorem execDec_after_execRpt {lbl : Nat} (hx : execRpt lbl s = .next t) (hrun : t.RUN = s.RUN)
    (hr : s.RUN = .running) :
    t.FV = false ∧ execDec t = .next (t.takeFault .frameNotValid) := by
  obtain ⟨r, -, rfl⟩ | ⟨-, -, rfl⟩ := execRpt_cases hx
  · exact ⟨rfl, execDec_of_no_frame rfl rfl⟩
  · simp [hr] at hrun

/-- `FV` is set by nothing but an `ACQ` whose transfer answers four bytes. -/
theorem step_sets_FV (hst : step s = .next t) (hs : s.FV = false) (ht : t.FV = true) :
    decodeUop s.fetch = .ok .acq ∧ s.ERR = .none ∧
      ∃ b0 b1 b2 b3 : Byte, s.busAnswer = .ok [b0, b1, b2, b3] := by
  obtain ⟨-, ⟨i, hi, hx⟩ | ⟨e, -, rfl⟩⟩ := step_cases hst
  · obtain ⟨-, -, hkept, -⟩ := registersChangeOnlyInTheirWriters i s t hx
    cases i with
    | acq =>
      by_cases he : s.ERR = .none
      · refine ⟨hi, he, ?_⟩
        by_contra hno
        push Not at hno
        cases (execAcq_of_failure he hno).symm.trans hx
        cases ht
      · cases (exec_of_skip ((skip_iff s).2 he) (.inr (.inr (.inl rfl)))).symm.trans hx
        simp [hs] at ht
    | rpt lbl =>
      obtain ⟨r, -, rfl⟩ | ⟨-, -, rfl⟩ := execRpt_cases hx
      · cases ht
      · simp [hs] at ht
    | _ => simp [hkept, hs] at ht
  · simp [hs] at ht

/-- Settles O27: the record of each case (`reportRecord_of_…`), what `RPT` does with a record and
without one, and who sets `FV`. -/
theorem rptResult : Obligations.RptResult := by
  refine ⟨fun w lbl h => decodeUop_eq_ok_iff rfl (decide_eq_true h) rfl,
    fun lbl s => ⟨?_, ?_, ?_, ?_⟩, fun _ _ _ => rfl, fun _ _ => rfl, fun _ _ => rfl, fun s fs hinv hrec => ?_,
    fun s e _ hrec => error_range_of_reportRecord hrec, fun lbl s t => execDec_after_execRpt,
    fun s t => step_sets_FV, fun s hf he => execDec_of_no_frame he hf⟩
  · exact fun he => execRpt_of_record (reportRecord_of_error he)
  · exact fun he hd hv => execRpt_of_record (reportRecord_of_reading he hd hv)
  · exact fun he hd hv => execRpt_of_record (reportRecord_of_sensorFault he hd hv)
  · exact fun he hd => execRpt_of_nothing (reportRecord_of_nothing he hd)
  · exact fsCode_range (hinv.sensorFault_of_frame hrec).1

/-! ### `LOOP` and `HALT` (R156, R157) -/

theorem execLoop_of_run {a : Nat} (h : s.stopLevel = false) :
    execLoop a s = .next (s.sampleStop.2.jump (BitVec.ofNat 5 a)) := by
  rw [execLoop, show s.sampleStop = (false, s.sampleStop.2) from Prod.ext h rfl]

theorem execLoop_of_stop {a : Nat} (h : s.stopLevel = true) :
    execLoop a s = .next s.sampleStop.2.advance := by
  rw [execLoop, show s.sampleStop = (true, s.sampleStop.2) from Prod.ext h rfl]

/-- Settles O28: the two levels of `STOP`. -/
theorem loopResult : Obligations.LoopResult :=
  ⟨fun _ _ h => decodeUop_eq_ok_iff rfl (decide_eq_true h) rfl, fun _ _ =>
    ⟨execLoop_of_run, execLoop_of_stop⟩⟩

/-- Settles O29: after `HALT` the machine is Halted, where there is no step (O43). -/
theorem haltEndsTheRun : Obligations.HaltEndsTheRun := by
  refine ⟨fun _ => decodeUop_eq_ok_iff rfl rfl rfl, fun s => ⟨rfl, fun t u hx hst => ?_⟩⟩
  obtain ⟨hrun, -⟩ := runStateTransitions.1 t u hst
  rw [execHalt_eq hx] at hrun
  cases hrun

/-! ### The placing of a table word (log entry 7) -/

theorem eq_ok_of_toOption {ε α : Type} {x : Except ε α} {a : α} (h : x.toOption = some a) :
    x = .ok a := by
  cases x with
  | error => cases h
  | ok b => exact congrArg Except.ok (Option.some.inj h)

/-- The step after the placing of an 8-bit word fetches it. -/
theorem fetch_withFetchWord_uop (w : Nat) (hwf : Memory.wf s.inp.PROG = true) :
    (s.withFetchWord 8 w).fetch = BitVec.ofNat 8 w :=
  Memory.read_write_same s.inp.PROG s.upc.toNat _ hwf

/-- The step after the placing of a frame fetches `DEC`. -/
theorem fetch_withFetchWord_frame (w : Nat) (hwf : Memory.wf s.inp.PROG = true) :
    (s.withFetchWord 32 w).fetch = 0x80#8 :=
  Memory.read_write_same s.inp.PROG s.upc.toNat _ hwf

/-- Settles O20: the stored word is read back; a frame is run by the `DEC` that is stored (O22). -/
theorem placedTableWordIsRunNext : Obligations.PlacedTableWordIsRunNext := by
  intro s w i hwf
  refine ⟨fun hd => ?_, fun hd => ?_⟩
  · refine step_of_decode rfl ?_
    rw [fetch_withFetchWord_uop w hwf]
    exact eq_ok_of_toOption hd
  · have hi : decodeFrame (BitVec.ofNat 32 w) = i :=
      Except.ok.inj ((decode_bytesOfFrame _).symm.trans (eq_ok_of_toOption hd))
    have hdec : decodeUop (s.withFetchWord 32 w).fetch = .ok .dec :=
      (decodeUop_eq_ok_iff rfl rfl rfl).2 (fetch_withFetchWord_frame w hwf)
    rw [step_of_decode rfl hdec, decRunsTheCapturedFrame _ rfl rfl, ← hi]
    rfl

end Sys2Proof.Machine
end

section
/-! SUPPORT. The canonical program, address by address (R158, R159): the tables that the default ROM
fixes, each one checked at its 21 addresses, and what one step of it does. -/

namespace Sys2Proof.Machine

variable {i : Instr} {s t : State}

/-! ### The tables of the program -/

/-- The addresses a step of the canonical program can leave `upc` at (R156, R157, R159). -/
def canonicalSuccessors (a : Nat) : List Nat :=
  if a = 19 then [0, 20] else if a = 20 then [20] else [a + 1]

/-- `mayBeOn1`, `mayBeOn2` and `mayBeOn4` by the channel. -/
def mayBeOn (c a : Nat) : Bool :=
  match c with
  | 1 => mayBeOn1 a
  | 2 => mayBeOn2 a
  | 4 => mayBeOn4 a
  | _ => false

/-- R162: the program has no reserved word. -/
theorem canonical_no_reserved :
    ∀ a ≤ 20, decodeUop (Memory.unlisted a) ≠ .error (.reservedUop (Memory.unlisted a)) := by
  decide

theorem canonical_successor_le : ∀ a ≤ 20, ∀ b ∈ canonicalSuccessors a, b ≤ 20 := by decide

/-! Where each operation stands. -/

theorem canonical_loop_address : ∀ a ≤ 20, ∀ t < 32,
    decodeUop (Memory.unlisted a) = .ok (.loop t) → a = 19 ∧ t = 0 := by decide

theorem canonical_halt_address : ∀ a ≤ 20, decodeUop (Memory.unlisted a) = .ok .halt ↔ a = 20 := by
  decide

theorem canonical_dec_address : ∀ a ≤ 20, decodeUop (Memory.unlisted a) = .ok .dec →
    atDec a = true := by decide

theorem canonical_acq_address : ∀ a ≤ 20, decodeUop (Memory.unlisted a) = .ok .acq →
    atAcq a = true := by decide

theorem canonical_rpt_address : ∀ a ≤ 20, ∀ lbl < 8,
    decodeUop (Memory.unlisted a) = .ok (.rpt lbl) → atRpt a = true := by decide

/-! Which operation stands before each address that a clause of `CanonicalInv` speaks of. -/

theorem canonical_before_acq : ∀ a ≤ 20, ∀ b ∈ canonicalSuccessors a, atAcq b = true →
    decodeUop (Memory.unlisted a) = .ok .wait := by decide

theorem canonical_before_dec : ∀ a ≤ 20, ∀ b ∈ canonicalSuccessors a, atDec b = true →
    decodeUop (Memory.unlisted a) = .ok .acq := by decide

theorem canonical_before_rpt : ∀ a ≤ 20, ∀ b ∈ canonicalSuccessors a, atRpt b = true →
    decodeUop (Memory.unlisted a) = .ok .dec := by decide

theorem canonical_before_phaseStart : ∀ a ≤ 20, ∀ b ∈ canonicalSuccessors a, phaseStart b = true →
    (∃ lbl ∈ [1, 2, 4], decodeUop (Memory.unlisted a) = .ok (.rpt lbl)) ∨
    (phaseStart a = true ∧ (decodeUop (Memory.unlisted a) = .ok (.loop 0) ∨
      decodeUop (Memory.unlisted a) = .ok .halt)) := by decide

/-- Where a cell may no longer be `On`, the operation before is its disable (R161). -/
theorem canonical_on_kept : ∀ a ≤ 20, ∀ b ∈ canonicalSuccessors a, ∀ c ∈ [1, 2, 4],
    mayBeOn c a = true →
    mayBeOn c b = true ∨ decodeUop (Memory.unlisted a) = .ok (.setr c false) := by decide

/-- After the enable of a channel its cell may be `On` (R161). -/
theorem canonical_on_enabled : ∀ a ≤ 20, ∀ b ∈ canonicalSuccessors a, ∀ c ∈ [1, 2, 4],
    decodeUop (Memory.unlisted a) = .ok (.setr c true) → mayBeOn c b = true := by decide

/-- At no address may two cells be `On` (R161). -/
theorem canonical_on_alone : ∀ a ≤ 20, ¬ (mayBeOn1 a = true ∧ mayBeOn2 a = true) ∧
    ¬ (mayBeOn1 a = true ∧ mayBeOn4 a = true) ∧ ¬ (mayBeOn2 a = true ∧ mayBeOn4 a = true) := by
  decide

/-- Settles O19: the assembly and the ROM are closed terms, on which `assemble` and the read run. -/
theorem canonicalAssemblyIsTheDefaultRom : Obligations.CanonicalAssemblyIsTheDefaultRom :=
  ⟨rfl, rfl, rfl⟩

/-! ### Relays, faults and service calls of any instruction -/

/-- There is a cell for the channels 1, 2 and 4 only (R36). -/
theorem channel_of_relay {c : Nat} {v : RelayState} (h : s.relay c = some v) : c ∈ [1, 2, 4] := by
  unfold State.relay at h
  split at h <;> simp_all

theorem exec_relay_of_not_setr {c : Nat} (h : exec i s = .next t)
    (hi : ∀ ch en, i ≠ .setr ch en) : t.relay c = s.relay c := by
  obtain ⟨-, -, -, -, -, -, -, hrelays, -⟩ := registersChangeOnlyInTheirWriters i s t h
  obtain ⟨h1, h2, h4⟩ := hrelays hi
  simp only [State.relay, h1, h2, h4]

theorem exec_disable_not_on {c : Nat} (h : exec (.setr c false) s = .next t) :
    t.relay c ≠ some .on := by
  intro hon
  obtain ⟨role, hr⟩ := roleOf_of_relay hon
  obtain ⟨-, -, -, hcell⟩ := shadowRelayStateUnderSetr c false s t h
  obtain ⟨hsucceeds, hfails⟩ := hcell role hr (.inr rfl)
  by_cases hok : s.lookupAnswer ≠ .err ∧ s.pinAnswer 0 = .ok ∧ s.pinAnswer 1 = .ok ∧
      s.pinAnswer 2 = .ok
  · simp [hsucceeds hok] at hon
  · simp [hfails hok] at hon

/-- A cell that is `On` was `On` before and is not being disabled, or it is being enabled (R137). -/
theorem exec_on_cases {c : Nat} (h : exec i s = .next t) (hon : t.relay c = some .on) :
    (s.relay c = some .on ∧ i ≠ .setr c false) ∨ i = .setr c true := by
  cases i with
  | setr ch en =>
    by_cases hc : c = ch
    · subst hc
      cases en with
      | false => exact absurd hon (exec_disable_not_on h)
      | true => exact .inr rfl
    · refine .inl ⟨exec_setr_relay_of_ne h hc ▸ hon, fun he => hc ?_⟩
      cases he
      rfl
  | _ => exact .inl ⟨exec_relay_of_not_setr h nofun ▸ hon, nofun⟩

/-- R194: a running machine is faulted only by `DEC` without a captured frame and by `RPT` without a
decode, and in a phase without an error. -/
theorem exec_faulted_cases (hr : s.RUN = .running) (h : exec i s = .next t)
    (hf : t.RUN = .faulted) :
    (i = .dec ∧ s.ERR = .none ∧ s.FV = false) ∨
    ((∃ lbl, i = .rpt lbl) ∧ s.ERR = .none ∧ s.DV = false) := by
  cases i with
  | dec =>
    obtain ⟨-, rfl⟩ | ⟨he, hv, rfl⟩ | ⟨-, -, rfl⟩ := execDec_cases h
    · simp [hr] at hf
    · exact .inl ⟨rfl, he, hv⟩
    · simp [hr] at hf
  | rpt lbl =>
    obtain ⟨r, -, rfl⟩ | ⟨he, hd, rfl⟩ := execRpt_cases h
    · simp [hr] at hf
    · exact .inr ⟨⟨lbl, rfl⟩, he, hd⟩
  | halt =>
    obtain rfl := execHalt_eq h
    cases hf
  | _ =>
    obtain ⟨-, -, -, -, -, hrun, -⟩ := registersChangeOnlyInTheirWriters _ s t h
    rw [hrun nofun nofun nofun, hr] at hf
    cases hf

theorem transfersSettled_append (b : Bool) (tr tr' : List Event) :
    transfersSettled b (tr ++ tr') =
      (transfersSettled b tr && transfersSettled (settledAtEnd b tr) tr') := by
  induction tr generalizing b with
  | nil => simp [transfersSettled, settledAtEnd]
  | cons e es ih => simp [transfersSettled, settledAtEnd, ih, Bool.and_assoc]

theorem transfersSettled_of_allowed {es : List Event}
    (h : ∀ e ∈ es, ∀ b, settleAllows b e = true) (b : Bool) : transfersSettled b es = true := by
  induction es generalizing b with
  | nil => rfl
  | cons e es ih =>
    obtain ⟨he, hes⟩ := List.forall_mem_cons.1 h
    simp [transfersSettled, he, ih hes]

theorem settleAllows_of_isRelayCall {e : Event} (h : e.isRelayCall = true) (b : Bool) :
    settleAllows b e = true := by
  cases e with
  | transfer => cases h
  | _ => rfl

/-- Only an `ACQ` in a phase without an error makes a transfer; every other event is allowed. -/
theorem exec_trace_cases (h : exec i s = .next t) :
    (∃ tr, t.TRACE = s.TRACE ++ tr ∧ ∀ e ∈ tr, ∀ b, settleAllows b e = true) ∨
    (i = .acq ∧ s.ERR = .none ∧ ∃ answer, t.TRACE = s.TRACE ++ [.transfer none 4 answer]) := by
  cases i with
  | setr ch en =>
    obtain ⟨-, -, rfl⟩ | ⟨e, -, -, -, rfl⟩ | ⟨_, -, -, hd⟩ := execSetr_cases h
    · exact .inl ⟨[], by simp⟩
    · exact .inl ⟨[], by simp⟩
    · obtain ⟨tr, htr, hcalls⟩ := hd.events
      exact .inl ⟨tr, htr, fun e he => settleAllows_of_isRelayCall (hcalls e he)⟩
  | wait =>
    obtain ⟨-, rfl⟩ | ⟨-, rfl⟩ := execWait_cases h
    · exact .inl ⟨[], by simp⟩
    · exact .inl ⟨[.delay s.inp.SETTLE], by simp [settleAllows]⟩
  | acq =>
    obtain ⟨-, rfl⟩ | ⟨he, F, rfl⟩ | ⟨he, rfl⟩ := execAcq_cases h
    · exact .inl ⟨[], by simp⟩
    · exact .inr ⟨rfl, he, s.busAnswer, by simp⟩
    · exact .inr ⟨rfl, he, s.busAnswer, by simp⟩
  | rpt lbl =>
    obtain ⟨r, -, rfl⟩ | ⟨-, -, rfl⟩ := execRpt_cases h
    · exact .inl ⟨[.report (BitVec.ofNat 3 lbl) r], by simp [settleAllows]⟩
    · exact .inl ⟨[], by simp⟩
  | _ =>
    obtain ⟨-, -, -, -, -, -, -, -, -, -, -, hsilent⟩ := registersChangeOnlyInTheirWriters _ s t h
    exact .inl ⟨[], by simp [hsilent, Instr.format]⟩

/-! ### One step of the program -/

theorem State.CanonicalInv.fetch_eq (h : s.CanonicalInv) :
    s.fetch = Memory.unlisted s.upc.toNat := by
  rw [State.fetch, State.romRead, h.prog, Memory.read]

theorem State.CanonicalInv.mayBeOn_of_relay_on (h : s.CanonicalInv) {c : Nat}
    (hon : s.relay c = some .on) : mayBeOn c s.upc.toNat = true := by
  unfold State.relay at hon
  split at hon
  · exact h.on1 (Option.some.inj hon)
  · exact h.on2 (Option.some.inj hon)
  · exact h.on4 (Option.some.inj hon)
  · cases hon

theorem State.CanonicalInv.exec_of_step (h : s.CanonicalInv) (hst : step s = .next t) :
    s.RUN = .running ∧
      ∃ i, decodeUop (Memory.unlisted s.upc.toNat) = .ok i ∧ exec i s = .next t := by
  obtain ⟨hr, ⟨i, hi, hx⟩ | ⟨e, he, -⟩⟩ := step_cases hst
  · exact ⟨hr, i, h.fetch_eq ▸ hi, hx⟩
  · rw [decodeUop_error he, h.fetch_eq] at he
    exact absurd he (canonical_no_reserved _ h.inProgram)

section
variable (h : s.CanonicalInv) (hr : s.RUN = .running)
  (hi : decodeUop (Memory.unlisted s.upc.toNat) = .ok i) (hx : exec i s = .next t)
include h hr hi hx

/-- R162: at a `DEC` without an error a frame is captured, at a `RPT` without one it is decoded. -/
theorem State.CanonicalInv.exec_not_faulted : t.RUN ≠ .faulted := by
  intro hf
  obtain ⟨rfl, he, hv⟩ | ⟨⟨lbl, rfl⟩, he, hd⟩ := exec_faulted_cases hr hx hf
  · simp [h.captured (canonical_dec_address _ h.inProgram hi) he] at hv
  · have hlbl : lbl < 8 := of_decide_eq_true (encodeOfDecodeIsTheWord.1 _ _ hi).2.1
    simp [h.decoded (canonical_rpt_address _ h.inProgram lbl hlbl hi) he] at hd

theorem State.CanonicalInv.exec_successor :
    t.upc.toNat ∈ canonicalSuccessors s.upc.toNat := by
  cases exec_controlOutcome hr hx with
  | fault hhalt hloop run pc => exact absurd run (h.exec_not_faulted hr hi hx)
  | halt hi' run pc =>
    subst hi'
    rw [pc, (canonical_halt_address _ h.inProgram).1 hi]
    decide
  | jump a hi' stop run pc =>
    subst hi'
    have ha : a < 32 := of_decide_eq_true (encodeOfDecodeIsTheWord.1 _ _ hi).2.1
    obtain ⟨hs, rfl⟩ := canonical_loop_address _ h.inProgram a ha hi
    rw [pc, hs]
    decide
  | advance hhalt hloop run pc =>
    have hle := h.inProgram
    have hne : s.upc.toNat ≠ 20 := by
      rw [Ne, ← canonical_halt_address _ hle, hi]
      simpa using hhalt
    have hpc : t.upc.toNat = s.upc.toNat + 1 := by rw [pc]; bv_omega
    rw [hpc, canonicalSuccessors, if_neg hne]
    split
    · next h19 => simp [h19]
    · simp

theorem State.CanonicalInv.exec_mayBeOn {c : Nat} (hon : t.relay c = some .on) :
    mayBeOn c t.upc.toNat = true := by
  have hsucc := h.exec_successor hr hi hx
  obtain ⟨hwas, hne⟩ | rfl := exec_on_cases hx hon
  · obtain hb | hb := canonical_on_kept _ h.inProgram _ hsucc c (channel_of_relay hwas)
      (h.mayBeOn_of_relay_on hwas)
    · exact hb
    · exact absurd (Except.ok.inj (hi.symm.trans hb)) hne
  · exact canonical_on_enabled _ h.inProgram _ hsucc c (channel_of_relay hon) hi

theorem State.CanonicalInv.exec_captured (hb : atDec t.upc.toNat = true) (he : t.ERR = .none) :
    t.FV = true := by
  obtain rfl : i = .acq := Except.ok.inj (hi.symm.trans
    (canonical_before_dec _ h.inProgram _ (h.exec_successor hr hi hx) hb))
  obtain ⟨hs, rfl⟩ | ⟨-, F, rfl⟩ | ⟨hs, rfl⟩ := execAcq_cases hx
  · exact absurd he hs
  · rfl
  · simp [hs] at he

theorem State.CanonicalInv.exec_decoded (hb : atRpt t.upc.toNat = true) (he : t.ERR = .none) :
    t.DV = true := by
  have hnf := h.exec_not_faulted hr hi hx
  obtain rfl : i = .dec := Except.ok.inj (hi.symm.trans
    (canonical_before_rpt _ h.inProgram _ (h.exec_successor hr hi hx) hb))
  obtain ⟨hs, rfl⟩ | ⟨-, -, rfl⟩ | ⟨-, -, rfl⟩ := execDec_cases hx
  · exact absurd he hs
  · exact absurd rfl hnf
  · rfl

theorem State.CanonicalInv.exec_clean (hb : phaseStart t.upc.toNat = true) :
    t.ERR = .none ∧ t.FV = false ∧ t.DV = false ∧ t.RV = false := by
  have hnf := h.exec_not_faulted hr hi hx
  obtain ⟨lbl, -, hop⟩ | ⟨ha, hop | hop⟩ :=
    canonical_before_phaseStart _ h.inProgram _ (h.exec_successor hr hi hx) hb
  · obtain rfl : i = .rpt lbl := Except.ok.inj (hi.symm.trans hop)
    obtain ⟨r, -, rfl⟩ | ⟨-, -, rfl⟩ := execRpt_cases hx
    · exact ⟨rfl, rfl, rfl, rfl⟩
    · exact absurd rfl hnf
  · obtain rfl : i = .loop 0 := Except.ok.inj (hi.symm.trans hop)
    obtain ⟨-, rfl⟩ | ⟨-, rfl⟩ := execLoop_cases hx
    · exact h.clean ha
    · exact h.clean ha
  · obtain rfl : i = .halt := Except.ok.inj (hi.symm.trans hop)
    obtain rfl := execHalt_eq hx
    exact h.clean ha

theorem State.CanonicalInv.exec_settled (hb : atAcq t.upc.toNat = true) (he : t.ERR = .none) :
    settledAtEnd false t.TRACE = true := by
  obtain rfl : i = .wait := Except.ok.inj (hi.symm.trans
    (canonical_before_acq _ h.inProgram _ (h.exec_successor hr hi hx) hb))
  obtain ⟨hs, rfl⟩ | ⟨-, rfl⟩ := execWait_cases hx
  · exact absurd he hs
  · simp [settledAtEnd, settleAfter]

omit hr in
theorem State.CanonicalInv.exec_transfers : transfersSettled false t.TRACE = true := by
  obtain ⟨tr, htr, hallowed⟩ | ⟨rfl, he, answer, htr⟩ := exec_trace_cases hx
  · rw [htr, transfersSettled_append, h.transfers, transfersSettled_of_allowed hallowed]
    rfl
  · have hset := h.settled (canonical_acq_address _ h.inProgram hi) he
    rw [htr, transfersSettled_append, h.transfers, hset]
    rfl

theorem State.CanonicalInv.exec_haltedAt (hh : t.RUN = .halted) : t.upc.toNat = 20 := by
  cases exec_controlOutcome hr hx with
  | halt hi' run pc =>
    subst hi'
    rw [pc, (canonical_halt_address _ h.inProgram).1 hi]
  | fault hhalt hloop run pc => simp [run] at hh
  | jump a hi' stop run pc => simp [run] at hh
  | advance hhalt hloop run pc => simp [run] at hh

end

/-- Settles O50: each clause speaks of certain addresses, and the operation that stands before them
leaves what the clause says. -/
theorem everyStepKeepsTheCanonicalInvariant : Obligations.EveryStepKeepsTheCanonicalInvariant := by
  intro s t h hst
  obtain ⟨hr, i, hi, hx⟩ := h.exec_of_step hst
  obtain ⟨-, -, -, -, -, -, -, -, hinp, -⟩ := registersChangeOnlyInTheirWriters i s t hx
  have hon := fun c => h.exec_mayBeOn hr hi hx (c := c)
  exact {
    prog := hinp ▸ h.prog
    notFaulted := h.exec_not_faulted hr hi hx
    inProgram := canonical_successor_le _ h.inProgram _ (h.exec_successor hr hi hx)
    haltedAt := h.exec_haltedAt hr hi hx
    on1 := fun h1 => hon 1 (congrArg some h1)
    on2 := fun h2 => hon 2 (congrArg some h2)
    on4 := fun h4 => hon 4 (congrArg some h4)
    captured := h.exec_captured hr hi hx
    decoded := h.exec_decoded hr hi hx
    clean := h.exec_clean hr hi hx
    settled := h.exec_settled hr hi hx
    transfers := h.exec_transfers hi hx }

/-! ### Runs of the program from reset (R161, R162) -/

/-- Reset leaves the first phase closed and no cell `On`. -/
theorem State.resetWith_canonicalInv {inp : Inputs} (calls : Calls) (h : inp.PROG = []) :
    (State.resetWith inp calls).CanonicalInv where
  prog := h
  notFaulted := nofun
  inProgram := Nat.zero_le 20
  haltedAt := nofun
  on1 := nofun
  on2 := nofun
  on4 := nofun
  captured := nofun
  decoded := nofun
  clean := fun _ => ⟨rfl, rfl, rfl, rfl⟩
  settled := nofun
  transfers := rfl

theorem State.CanonicalInv.atMostOneOn (h : s.CanonicalInv) : s.AtMostOneOn where
  not12 := fun ⟨h1, h2⟩ => canonical_on_alone _ h.inProgram |>.1 ⟨h.on1 h1, h.on2 h2⟩
  not14 := fun ⟨h1, h4⟩ => canonical_on_alone _ h.inProgram |>.2.1 ⟨h.on1 h1, h.on4 h4⟩
  not24 := fun ⟨h2, h4⟩ => canonical_on_alone _ h.inProgram |>.2.2 ⟨h.on2 h2, h.on4 h4⟩

/-- Settles O52: every reached state has the invariant, which lets at most one cell be `On`. -/
theorem neverTwoRelaysOn : Obligations.NeverTwoRelaysOn := by
  intro inp calls k t hprog hrun
  exact (run_keeps everyStepKeepsTheCanonicalInvariant k _ t
    (State.resetWith_canonicalInv calls hprog) hrun).atMostOneOn

theorem State.CanonicalInv.run_not_faulted (h : s.CanonicalInv) (k : Nat) :
    (∃ t, run k s = .next t ∧ t.RUN ≠ .faulted) ∨ run k s = .fault .haltedNoStep := by
  induction k generalizing s with
  | zero => exact .inl ⟨s, rfl, h.notFaulted⟩
  | succ k ih =>
    cases hr : s.RUN with
    | running =>
      obtain ⟨u, hst⟩ := step_next_of_running hr
      rw [run, hst]
      exact ih (everyStepKeepsTheCanonicalInvariant s u h hst)
    | halted => exact .inr (by rw [run, runStateTransitions.2.1 s hr])
    | faulted => exact absurd hr h.notFaulted

/-- Settles O53, by induction on the number of steps from any state with the invariant. -/
theorem defaultRomNeverFaults : Obligations.DefaultRomNeverFaults :=
  fun _ calls k hprog => (State.resetWith_canonicalInv calls hprog).run_not_faulted k

end Sys2Proof.Machine
end

section
/-! SUPPORT. The exceptional events: the first error of a phase and the `RPT` that clears it (R183,
R192), the channels without a role (R185, R186), and the causes of a sequencer fault (R194). -/

namespace Sys2Proof.Machine

variable {i : Instr} {s t : State}

/-! ### Recoverable errors -/

/-- Under an error a `raise` records nothing: it only advances (R183). -/
theorem raise_of_error (he : s.ERR ≠ .none) (e : ErrCode) : s.raise e = s.advance := by
  rw [State.raise, if_neg he, State.advance]

theorem RelayDriven.err_of_error {ch : Nat} {en : Bool} (hd : RelayDriven s t ch en)
    (he : s.ERR ≠ .none) : t.ERR = s.ERR := by
  obtain ⟨herr, -⟩ | ⟨e, c, tr, -, -, rfl⟩ := hd.outcome
  · exact herr
  · exact if_neg he

/-- `SETR` and `ACQ` are the only other writers of `ERR`, and under an error neither changes it. -/
theorem exec_err_of_error (h : exec i s = .next t) (he : s.ERR ≠ .none)
    (hi : ∀ lbl, i ≠ .rpt lbl) : t.ERR = s.ERR := by
  cases i with
  | setr ch en =>
    obtain ⟨-, -, rfl⟩ | ⟨e, -, -, -, rfl⟩ | ⟨_, -, -, hd⟩ := execSetr_cases h
    · rfl
    · rw [raise_of_error he, advance_ERR]
    · exact hd.err_of_error he
  | acq =>
    rw [exec_of_skip ((skip_iff s).2 he) (.inr (.inr (.inl rfl)))] at h
    cases h
    rfl
  | _ =>
    obtain ⟨-, -, -, -, herr, -⟩ := registersChangeOnlyInTheirWriters _ s t h
    exact herr nofun nofun hi

/-- After `RPT` there is no error: it was reported and cleared, or the `RPT` found none and faulted. -/
theorem execRpt_err {lbl : Nat} (h : execRpt lbl s = .next t) : t.ERR = .none := by
  obtain ⟨r, -, rfl⟩ | ⟨he, -, rfl⟩ := execRpt_cases h
  · rfl
  · exact he

/-- Settles O38: the writers of `ERR` under an error, and `RPT`. -/
theorem firstErrorStaysUntilReport : Obligations.FirstErrorStaysUntilReport := by
  refine fun i s t h => ⟨exec_err_of_error h, ?_⟩
  rintro lbl rfl -
  exact execRpt_err h

/-- A `SETR` of a channel without a role makes no call: it raises the channel's error, or, suppressed,
only advances, which under an error is the same. -/
theorem exec_setr_of_no_role {ch : Nat} {en : Bool} {e : ResolveError} (hr : roleOf ch = .error e) :
    exec (.setr ch en) s = .next (s.raise (resolveErrCode e)) := by
  obtain ⟨t, ht⟩ := everyInstructionEndsInANextState (.setr ch en) s
  rw [ht]
  obtain ⟨he, -, rfl⟩ | ⟨e', he', -, -, rfl⟩ | ⟨role, hrole, -, -⟩ := execSetr_cases ht
  · rw [raise_of_error he]
  · rw [Except.error.inj (he'.symm.trans hr)]
  · cases hrole.symm.trans hr

/-- Both cases of `ERR` for a channel without a role, as R185 and R186 write them. -/
theorem setr_of_no_role_result {ch : Nat} {e : ResolveError} (hr : roleOf ch = .error e) (en : Bool)
    (s : State) :
    (s.ERR = .none → exec (.setr ch en) s =
      .next { s with ERR := resolveErrCode e, upc := s.upc + 1#5 }) ∧
    (s.ERR ≠ .none → exec (.setr ch en) s = .next { s with upc := s.upc + 1#5 }) := by
  rw [exec_setr_of_no_role hr]
  exact ⟨fun he => by rw [raise_of_no_error he], fun he => by rw [raise_of_error he, State.advance]⟩

/-- Settles O33: channel 3 has no role. -/
theorem reservedChannelIsNeverDriven : Obligations.ReservedChannelIsNeverDriven :=
  setr_of_no_role_result (ch := 3) (e := .reservedChannel) rfl

/-- Settles O34: none of the four channels has a role. -/
theorem outOfRangeChannelIsAnError : Obligations.OutOfRangeChannelIsAnError := by
  intro ch en s hch
  have hr : roleOf ch = .error .invalidChannel := by
    obtain rfl | rfl | rfl | rfl := hch <;> rfl
  exact setr_of_no_role_result hr en s

/-! ### Sequencer faults (R194) -/

/-- The word fetched in `s` is a cause of the sequencer fault with the given reason. -/
inductive FaultCause (s : State) : FaultReason → Prop where
  | reserved (hd : decodeUop s.fetch = .error (.reservedUop s.fetch)) : FaultCause s .reservedUop
  | noFrame (hd : decodeUop s.fetch = .ok .dec) (he : s.ERR = .none) (hv : s.FV = false) :
      FaultCause s .frameNotValid
  | noDecode (lbl : Nat) (hd : decodeUop s.fetch = .ok (.rpt lbl)) (he : s.ERR = .none)
      (hv : s.DV = false) : FaultCause s .nothingToReport

variable {w : FaultReason}

theorem FaultCause.exists_iff :
    (∃ w, FaultCause s w) ↔
      (decodeUop s.fetch = .error (.reservedUop s.fetch) ∨
       (decodeUop s.fetch = .ok .dec ∧ s.ERR = .none ∧ s.FV = false) ∨
       (∃ lbl, decodeUop s.fetch = .ok (.rpt lbl) ∧ s.ERR = .none ∧ s.DV = false)) := by
  constructor
  · rintro ⟨_, hd | ⟨hd, he, hv⟩ | ⟨lbl, hd, he, hv⟩⟩
    · exact .inl hd
    · exact .inr (.inl ⟨hd, he, hv⟩)
    · exact .inr (.inr ⟨lbl, hd, he, hv⟩)
  · rintro (hd | ⟨hd, he, hv⟩ | ⟨lbl, hd, he, hv⟩)
    · exact ⟨_, .reserved hd⟩
    · exact ⟨_, .noFrame hd he hv⟩
    · exact ⟨_, .noDecode lbl hd he hv⟩

/-- A cause is sufficient, and it decides the reason. -/
theorem FaultCause.step_eq (hc : FaultCause s w) (hr : s.RUN = .running) :
    step s = .next (s.takeFault w) := by
  cases hc with
  | reserved hd => exact step_of_reserved hr hd
  | noFrame hd he hv => exact (step_of_decode hr hd).trans (execDec_of_no_frame he hv)
  | noDecode lbl hd he hv =>
    exact (step_of_decode hr hd).trans (execRpt_of_nothing (reportRecord_of_nothing he hv))

/-- A cause is necessary (`exec_faulted_cases`). -/
theorem exists_faultCause_of_step (h : step s = .next t) (hf : t.RUN = .faulted) :
    ∃ w, FaultCause s w := by
  obtain ⟨hr, ⟨i, hi, hx⟩ | ⟨e, he, -⟩⟩ := step_cases h
  · obtain ⟨rfl, he, hv⟩ | ⟨⟨lbl, rfl⟩, he, hv⟩ := exec_faulted_cases hr hx hf
    · exact ⟨_, .noFrame hi he hv⟩
    · exact ⟨_, .noDecode lbl hi he hv⟩
  · rw [decodeUop_error he] at he
    exact ⟨_, .reserved he⟩

theorem FaultCause.eq_takeFault (hc : FaultCause s w) (h : step s = .next t) :
    t = s.takeFault w :=
  Host.Outcome.next.inj (h.symm.trans (hc.step_eq (step_cases h).1))

/-- R35: the codes 1, 2 and 3 tell the causes apart by the fetched word alone. -/
theorem FaultCause.code_iff (hc : FaultCause s w) :
    (faultCode w = 1#2 ↔ decodeUop s.fetch = .error (.reservedUop s.fetch)) ∧
    (faultCode w = 2#2 ↔ decodeUop s.fetch = .ok .dec) ∧
    (faultCode w = 3#2 ↔ ∃ lbl, decodeUop s.fetch = .ok (.rpt lbl)) := by
  cases hc with
  | reserved hd => simp [hd, faultCode]
  | noFrame hd => simp [hd, faultCode]
  | noDecode lbl hd => simp [hd, faultCode]

/-- Settles O42: a step faults exactly when its word is a `FaultCause`, and then it is `takeFault` of
the cause's reason, which leaves a state without a step (O43). -/
theorem sequencerFaultsHaveThreeCauses : Obligations.SequencerFaultsHaveThreeCauses := by
  intro s t h
  rw [← FaultCause.exists_iff]
  refine ⟨⟨exists_faultCause_of_step h, fun ⟨w, hc⟩ => ?_⟩, fun hf => ?_⟩
  · rw [hc.eq_takeFault h, takeFault_RUN]
  · obtain ⟨w, hc⟩ := exists_faultCause_of_step h hf
    obtain ⟨-, -, hnoStep, -⟩ := runStateTransitions
    obtain rfl := hc.eq_takeFault h
    refine ⟨rfl, fun u hu => ?_, hc.code_iff⟩
    rw [hnoStep _ hf] at hu
    cases hu

end Sys2Proof.Machine
end

section
/-! SUPPORT. Reset (R210, R211), and what the canonical program guarantees from it (R215): the values
that reset leaves, the first step, and settle before acquire. -/

namespace Sys2Proof.Machine

variable {s : State}

/-! ### Reset and the first step (R210, R211) -/

theorem frameValue_of_no_frame (hf : s.FV = false) : s.frameValue = none := by
  simp [State.frameValue, hf]

/-- R23, R24, R31: the decode registers are valid together. -/
theorem decodeValues_of_no_decode (hd : s.DV = false) :
    s.tcValue = none ∧ s.cjValue = none ∧ s.fsValue = none := by
  simp [State.tcValue, State.cjValue, State.fsValue, hd]

/-- Settles O1: the registers are fields of `resetWith`; with `FV` and `DV` 0 the data registers hold
no value, and `DEC` and `RPT` take their faults. -/
theorem resetPutsEveryRegisterAtItsResetValue :
    Obligations.ResetPutsEveryRegisterAtItsResetValue := by
  refine ⟨?_, fun s => rfl, rfl⟩
  rintro inp calls _ rfl
  obtain ⟨htc, hcj, hfs⟩ := decodeValues_of_no_decode (s := State.resetWith inp calls) rfl
  have hdec := execDec_of_no_frame (s := State.resetWith inp calls) rfl rfl
  have hrpt := fun lbl => execRpt_of_nothing (lbl := lbl)
    (reportRecord_of_nothing (s := State.resetWith inp calls) rfl rfl)
  exact ⟨rfl, rfl, rfl, rfl, rfl, rfl, rfl, rfl, rfl, rfl, frameValue_of_no_frame rfl, htc, hcj, hfs,
    rfl, rfl, hdec, hrpt⟩

/-- R158: address 0 holds the first word of the disable of channel 2. -/
theorem decodeUop_canonical_zero : decodeUop (Memory.unlisted 0) = .ok (.setr 2 false) := by decide

/-- Settles O2: `upc` is 0 after reset, and the canonical word there is that of `SETR 2,0`. -/
theorem firstStepAfterResetRunsProgZero : Obligations.FirstStepAfterResetRunsProgZero := by
  refine fun inp calls => ⟨rfl, fun hprog => step_of_decode rfl ?_⟩
  rw [(State.resetWith_canonicalInv calls hprog).fetch_eq]
  exact decodeUop_canonical_zero

/-! ### The canonical invariant from reset, and settle before acquire (R215) -/

/-- Settles O51. -/
theorem resetHasTheCanonicalInvariant : Obligations.ResetHasTheCanonicalInvariant :=
  fun _ calls hprog => State.resetWith_canonicalInv calls hprog

/-- Settles O54: every reached state has the invariant, one clause of which is the claim: at an `ACQ`
without an error the `WAIT` before it has settled the relays (`State.CanonicalInv.exec_settled`). -/
theorem defaultRomSettlesBeforeEveryTransfer :
    Obligations.DefaultRomSettlesBeforeEveryTransfer := by
  intro inp calls k t hprog hrun
  exact (run_keeps everyStepKeepsTheCanonicalInvariant k _ t
    (State.resetWith_canonicalInv calls hprog) hrun).transfers

end Sys2Proof.Machine
end
